-- ==== Sys2Proof/Word.lean ====
section
/-! DEFINITION. The widths the manual gives: bytes, samples, addresses, times, counters, and the numbers of streams,
slots and lines (spec/00 section 6, spec/01, spec/02, spec/08). -/

namespace Sys2Proof

/-- One byte of a frame or of a record. -/
abbrev Byte := BitVec 8

/-- A 24-bit two's complement sample (spec/00 section 6.2). -/
abbrev Sample := BitVec 24

/-- An Ethernet address of 6 bytes, the first byte of the wire in bits 47 to 40 (R1). -/
abbrev Mac := BitVec 48

/-- A transport type (R1). -/
abbrev EtherType := BitVec 16

/-- A segment's sequence number (spec/01 section 1.3). -/
abbrev Seq := BitVec 16

/-- An origin time in venue frames, wrapping (spec/00 section 6.1). -/
abbrev Origin := BitVec 32

/-- A house frame count, wrapping (R54). -/
abbrev HouseCount := BitVec 32

/-- A counter: 32 bits, saturating (spec/00 section 6.2). -/
abbrev Counter := BitVec 32

/-- A block phase, 0 to 47 (R55). Adding 1 to 47 gives 0. -/
abbrev Phase := Fin 48

/-- The PLACE of a stream in the stream table: the manual's stream n (1 to 64) is place n - 1. -/
abbrev StreamId := Fin 64

/-- A gallery slot, 0 to 255 (R123). -/
abbrev SlotId := Fin 256

/-- A route number, 0 to 255 (R123). -/
abbrev RouteId := Fin 256

/-- One output frame of a stream, channels 0 to 15 (R80, R109). -/
abbrev Frame := Vector Sample 16

/-- The 256 slot values of one house frame (R130). -/
abbrev SlotValues := Vector Sample 256

/-- A bus frame of the gallery bus: 8 lanes of 32 samples (R144). -/
abbrev BusFrame := Vector (Vector Sample 32) 8

/-- The manual's number, 1 to 64, of the stream at a place. -/
abbrev StreamId.number (k : StreamId) : Nat := k.val + 1

end Sys2Proof
end

