-- ==== Sys2Proof/Syntax.lean ====
section
/-! DEFINITION. The commands of the block: one constructor of `Instr` for each row of spec/opcode_table.json, with what
the row's event brings with it (a port, a frame, a segment, a reference edge, a request, a stream, a level). -/

namespace Sys2Proof

/-- The two link ports. Port A carries path A and port B carries path B, so a path is named by its port (R9). -/
inductive Port where
  | a
  | b
  deriving DecidableEq, Repr

/-- A VLAN tag as a management request keeps it: its identifier and its priority (R10). -/
structure VlanTag where
  vid      : BitVec 12
  priority : BitVec 3
  deriving DecidableEq, Repr

/-- The streams that one in-force copy covers. There is one answer: the stream table takes a block boundary as one event
over every record (R19, R20, R55). -/
inductive CopyScope where
  | allStreams
  deriving DecidableEq, Repr

/-- A frame whose reception completes at a port. `bytes` runs from the first byte of the destination address to the
last byte of the frame check sequence; whether that sequence matches is given with the frame (R4). -/
structure RxFrame where
  fcsOk : Bool
  bytes : List Byte
  deriving DecidableEq, Repr

/-- An audio segment (spec/01 section 1.3): the stream number, the shape, the sequence, the origin time and the samples,
frame by frame and within a frame from channel 0. The fields are as the segment carries them, in range or not. -/
structure Segment where
  stream   : Nat
  channels : Nat
  frames   : Nat
  seq      : Seq
  origin   : Origin
  samples  : List Sample
  deriving DecidableEq, Repr

/-- An edge of the house reference. Times are in 1/65536 of the oscillator's frame period (log 3).
`span` is the time since the reference edge before it (R58); `offset` is how far the edge falls after (or, negative,
before) the instant at which the next house frame is expected (R56); `mark` says whether it carries the
once-per-second mark (R60). -/
structure Edge where
  span   : Nat
  offset : Int
  mark   : Bool
  deriving DecidableEq, Repr

/-- A management request as a port hands it to the agent (R10, spec/12 section 12.1), less its request code and object
code: those the command's name gives. -/
structure Envelope where
  port   : Port
  source : Mac
  vlan   : Option VlanTag
  unit   : Byte
  index  : Byte
  count  : Byte
  tag    : BitVec 32
  data   : List Byte
  deriving DecidableEq, Repr

/-- The event that closes a stream's block peak at a boundary (R154): the monitor unit's work, or the hand-off of the
boundary's own output frame. -/
inductive Closer where
  | monitorWork
  | handOff
  deriving DecidableEq, Repr

/-- The commands: every row of spec/opcode_table.json. -/
inductive Instr where
  /-- POWER_ON (R191), with the value the unit-address straps carry. -/
  | powerOn (straps : Byte)
  /-- RESET_LINE_ASSERT (R190). -/
  | resetLineAssert
  /-- RESET_LINE_RELEASE (R190). -/
  | resetLineRelease
  /-- LINK_STATE_CHANGE (R3): the medium of a port reports UP (`true`) or DOWN. -/
  | linkStateChange (p : Port) (up : Bool)
  /-- CUT_LINE_CHANGE (R131): a cut line becomes asserted (`true`) or released. -/
  | cutLineChange (line : Fin 8) (asserted : Bool)
  /-- PROTECT_LINE_CHANGE (R181). -/
  | protectLineChange (asserted : Bool)
  /-- FRAME_RECEPTION (R4): the reception of a frame completes at a port. -/
  | frameReception (p : Port) (f : RxFrame)
  /-- AUDIO_SEGMENT (R28): a port hands an admitted segment to the classifier. -/
  | audioSegment (p : Port) (g : Segment)
  /-- REJECT_RUN_RELOCK (R36): the segment whose rejection brings the reject run to 16. -/
  | rejectRunRelock (p : Port) (g : Segment)
  /-- REFERENCE_EDGE (R56). -/
  | referenceEdge (e : Edge)
  /-- MISSED_EDGE_FRAME (R56). -/
  | missedEdgeFrame
  /-- ENTER_FREE_RUN (R57): the missed-edge frame that brings the missed-edge run to 4. -/
  | enterFreeRun
  /-- OSCILLATOR_FRAME (R57). -/
  | oscillatorFrame
  /-- GOOD_EDGE_RUN_LAPSE (R58). -/
  | goodEdgeRunLapse
  /-- ENTER_LOCKED_REF (R59): the good edge that brings the good-edge run to 480. -/
  | enterLockedRef (e : Edge)
  /-- IN_FORCE_TUNING_COPY (R19) for every stream, the one event of the stream table at a block boundary (R20, R55). -/
  | inForceTuningCopy (scope : CopyScope)
  /-- PLAYOUT_ENGINE_WORK (R78) for one stream. -/
  | playoutEngineWork (k : StreamId)
  /-- ENTER_PLAYING (R69): the playout engine's work that brings P to t0. -/
  | enterPlaying (k : StreamId)
  /-- STARVE_TIMEOUT (R70): the playout engine's work whose boundary stage enters HOLDOVER. -/
  | starveTimeout (k : StreamId)
  /-- HOLDOVER_LIMIT_RELOCK (R72): the playout engine's work whose boundary stage relocks. -/
  | holdoverLimitRelock (k : StreamId)
  /-- DROP_FRAME (R103): the playout engine's work whose frame stage is a drop frame. -/
  | dropFrame (k : StreamId)
  /-- INSERT_FRAME (R104): the playout engine's work whose frame stage is an insert frame. -/
  | insertFrame (k : StreamId)
  /-- SERVO_STEP (R90) for one stream. -/
  | servoStep (k : StreamId)
  /-- MONITOR_BOUNDARY_WORK (R150) for one stream. -/
  | monitorBoundaryWork (k : StreamId)
  /-- PATH_TIMEOUT (R150): the monitor unit's work that raises a path's condition. -/
  | pathTimeout (k : StreamId) (p : Port)
  /-- INTERVAL_SATURATION (R148): the monitor unit's work that freezes a path's interval record. -/
  | intervalSaturation (k : StreamId) (p : Port)
  /-- SILENCE_WINDOW (R155): the event whose close of the block peak raises SILENCE. -/
  | silenceWindow (k : StreamId) (closer : Closer)
  /-- ROUTE_MATRIX_EVENT (R130). -/
  | routeMatrixEvent
  /-- SWAP_PERFORMED (R186): the route matrix event that performs a waiting SWAP. -/
  | swapPerformed
  /-- TRANSITION_END (R137): the route matrix event whose boundary work ends transitions. -/
  | transitionEnd
  /-- GALLERY_BUS_FRAME (R144). -/
  | galleryBusFrame
  /-- TRANSMISSION_COMPLETE (R12). -/
  | transmissionComplete (p : Port)
  /-- READ_STREAM (R17). -/
  | readStream (m : Envelope)
  /-- READ_STREAM_STATUS (R89). -/
  | readStreamStatus (m : Envelope)
  /-- READ_ROUTE_ACTIVE (R146). -/
  | readRouteActive (m : Envelope)
  /-- READ_ROUTE_STANDBY (R124). -/
  | readRouteStandby (m : Envelope)
  /-- READ_COVER (R113). -/
  | readCover (m : Envelope)
  /-- READ_PATTERN (R141). -/
  | readPattern (m : Envelope)
  /-- READ_DEVICE (R187). -/
  | readDevice (m : Envelope)
  /-- READ_PORT_COUNTERS (R14). -/
  | readPortCounters (m : Envelope)
  /-- READ_PATH_COUNTERS (R37). -/
  | readPathCounters (m : Envelope)
  /-- READ_MONITORS (R158). -/
  | readMonitors (m : Envelope)
  /-- READ_TIMEBASE (R64). -/
  | readTimebase (m : Envelope)
  /-- WRITE_STREAM (R20). -/
  | writeStream (m : Envelope)
  /-- WRITE_ROUTE_STANDBY (R125). -/
  | writeRouteStandby (m : Envelope)
  /-- WRITE_COVER (R114). -/
  | writeCover (m : Envelope)
  /-- WRITE_PATTERN (R141). -/
  | writePattern (m : Envelope)
  /-- WRITE_DEVICE (R187). -/
  | writeDevice (m : Envelope)
  /-- ENABLE (R25). -/
  | enable (m : Envelope)
  /-- DISABLE (R26). -/
  | disable (m : Envelope)
  /-- RELOCK (R75). -/
  | relock (m : Envelope)
  /-- SWAP (R186). The object code is disregarded and echoed. -/
  | swap (object : Byte) (m : Envelope)
  /-- COPY (R126). -/
  | copy (object : Byte) (m : Envelope)
  /-- PEEK_EVENTS (R169). -/
  | peekEvents (object : Byte) (m : Envelope)
  /-- READ_EVENTS (R170). -/
  | readEvents (object : Byte) (m : Envelope)
  /-- COLLECT_PORT_COUNTERS (R14). -/
  | collectPortCounters (m : Envelope)
  /-- COLLECT_PATH_COUNTERS (R37). -/
  | collectPathCounters (m : Envelope)
  /-- COLLECT_MONITORS (R159). -/
  | collectMonitors (m : Envelope)
  /-- RESET (R189), without the clear-tables flag. -/
  | reset (object : Byte) (m : Envelope)
  /-- RESET_CLEAR_TABLES (R189), a RESET whose data begins with the clear-tables flag set. -/
  | resetClearTables (object : Byte) (m : Envelope)
  /-- UNKNOWN_REQUEST (R177): a request code that is none of the eleven. -/
  | unknownRequest (code object : Byte) (m : Envelope)
  /-- REQUEST_NOT_APPLYING_TO_OBJECT (R177): a known request code with an object it does not apply to. -/
  | requestNotApplyingToObject (code object : Byte) (m : Envelope)
  deriving DecidableEq, Repr

end Sys2Proof
end

