-- ==== Sys2Proof/Config.lean ====
section
/-! DEFINITION. The values the manual leaves open, as constants without a body: no proof can see what they are. -/

namespace Sys2Proof.Config

/-- What a word of sample memory holds that nothing has written since power-on number `epoch`. Its value is
unknown (R53). Log 12. -/
opaque powerOnWord (epoch address : Nat) : Sample

/-- The byte that stands for a port's link state, UP or DOWN, at the end of a PORT_COUNTERS record. The record holds
the link state in one byte (R14, spec/12 section 12.3), and spec/12 section 12.2 gives it no code. Log 13. -/
opaque linkStateCode (up : Bool) : Byte

end Sys2Proof.Config
end

