-- ==== Sys2Proof/Machine/Parts.lean ====
section
/-! DEFINITION. The parts of the machine's state, block by block (spec/00 section 2). Plain data throughout. -/

namespace Sys2Proof.Machine

/-! ### Link ports (spec/01) -/

/-- The two kinds of frame a port sends (spec/01 section 1.5). -/
inductive TxKind where
  | reply
  | notice
  deriving DecidableEq, Repr

/-- A frame formed for transmission (R11): its addresses, tag and EtherType, and the transport bytes from the kind byte
to the end of the data. Padding and frame check sequence follow from these (log 18). -/
structure TxFrame where
  kind      : TxKind
  dest      : Mac
  source    : Mac
  vlan      : Option VlanTag
  etherType : EtherType
  transport : List Byte
  deriving DecidableEq, Repr

/-- The eight counters of a port, in the order of spec/01 section 1.6. -/
structure PortCounters where
  framesReceived   : Counter
  badFcs           : Counter
  foreign          : Counter
  malformed        : Counter
  unadmitted       : Counter
  requestsAccepted : Counter
  repliesSent      : Counter
  alertsSent       : Counter
  deriving DecidableEq, Repr

/-- A link port (spec/01, table at its head). The head of `queue` is the frame in transmission (R12). -/
structure LinkPort where
  station   : Mac
  etherType : EtherType
  linkUp    : Bool
  queue     : List TxFrame
  counters  : PortCounters
  deriving DecidableEq, Repr

/-! ### House timebase (spec/04) -/

/-- Reference state (spec/04 section 4.2). -/
inductive RefState where
  | freeRun
  | lockedRef
  deriving DecidableEq, Repr

/-- The house timebase (spec/04, table at its head). `spanOpen` says whether an earlier edge has begun the span that the
next edge ends (R58). `firstDue` says that the first house frame after power-on, whose count is 0, is still to be
produced (R54, R65; log 7). Re-phase enable is a device setting. -/
structure Timebase where
  h         : HouseCount
  phase     : Phase
  ref       : RefState
  missedRun : Nat
  goodRun   : Nat
  lastMark  : Phase
  spanOpen  : Bool
  firstDue  : Bool
  deriving DecidableEq, Repr

/-! ### Alarms and events (spec/10) -/

/-- The stream alarm kinds (R132). -/
inductive StreamAlarm where
  | starved
  | servoLimit
  | pathADown
  | pathBDown
  | silence
  deriving DecidableEq, Repr

/-- One flag per stream alarm kind: the pairs of one stream in the active alarm set (R161), or the mute mask (R164). -/
structure AlarmFlags where
  starved    : Bool
  servoLimit : Bool
  pathADown  : Bool
  pathBDown  : Bool
  silence    : Bool
  deriving DecidableEq, Repr

/-- The eleven event kinds (spec/10 section 10.3), in priority order. -/
inductive EventKind where
  | refLost
  | starved
  | relocked
  | servoLimit
  | pathADown
  | pathBDown
  | silence
  | markSlip
  | refRestored
  | locked
  | bankSwapped
  deriving DecidableEq, Repr

/-- A pending pair of the event set with its occurrence count (R167). Stream 0 is the device. -/
structure EventEntry where
  kind   : EventKind
  stream : Nat
  count  : Nat
  deriving DecidableEq, Repr

/-- The alert destination (R172). -/
structure AlertDest where
  address : Mac
  port    : Port
  vlan    : Option VlanTag
  deriving DecidableEq, Repr

/-- The alarm and event unit (spec/10), less the stream alarms, which stand with their streams. `events` is in the order
of R169: rising priority, and within a kind rising stream. -/
structure EventUnit where
  refLost      : Bool
  events       : List EventEntry
  alertPending : Bool
  alertDest    : Option AlertDest
  deriving DecidableEq, Repr

/-! ### Streams (spec/02, 03, 05, 06, 07, 09) -/

/-- Path admission (R17). -/
inductive Admission where
  | a
  | b
  | both
  deriving DecidableEq, Repr

/-- Fill method (R111, R112). -/
inductive FillMethod where
  | zero
  | hold
  | fade
  deriving DecidableEq, Repr

/-- The structural fields of a stream record (R17). -/
structure Shape where
  channels  : Nat
  segLen    : Nat
  basePage  : Nat
  pageCount : Nat
  holdDepth : Nat
  admission : Admission
  deriving DecidableEq, Repr

/-- The tuning fields of a stream record (R17). `rmax` is as written; `watch` is none for NONE. -/
structure Tuning where
  starveTimeout    : Nat
  holdoverLimit    : Nat
  pathTimeout      : Nat
  fill             : FillMethod
  gain             : Nat
  deadband         : Nat
  rmax             : Nat
  watch            : Option Nat
  silenceThreshold : Nat
  silenceWindow    : Nat
  deriving DecidableEq, Repr

/-- A stream record, less its enabled flag (R17). -/
structure StreamRecord where
  shape  : Shape
  tuning : Tuning
  deriving DecidableEq, Repr

/-- The figures fixed at ENABLE (R22, R24). -/
structure Figures where
  slots    : Nat
  capacity : Nat
  effH     : Nat
  deriving DecidableEq, Repr

/-- Playout states (spec/05). -/
inductive PlayState where
  | idle
  | acquire
  | filling
  | playing
  | holdover
  deriving DecidableEq, Repr

/-- Slip due, and the servo's direction (R81, R95). -/
inductive Slip where
  | none
  | drop
  | insert
  deriving DecidableEq, Repr

/-- A (sequence, origin time) pair: a slot position's tag (R44), or the anchor (R31). -/
structure Tag where
  seq    : Seq
  origin : Origin
  deriving DecidableEq, Repr

/-- The drift servo's values for one stream (spec/06, table at its head). -/
structure Servo where
  s         : Int
  r         : Nat
  q         : Nat
  direction : Slip
  lead      : Int
  error     : Int
  unclamped : Nat
  deriving DecidableEq, Repr

/-- The eight counters of an arrival context, in the order of R27. -/
structure PathCounters where
  received   : Counter
  accepted   : Counter
  duplicate  : Counter
  late       : Counter
  early      : Counter
  mismatch   : Counter
  lost       : Counter
  outOfOrder : Counter
  deriving DecidableEq, Repr

/-- What is held per (stream, path): the arrival context (R27) and the monitor unit's arrival record (R147) with its own
record of the path's condition (R157). -/
structure PathContext where
  expected        : Option Seq
  blocksSince     : Nat
  counters        : PathCounters
  lastArrival     : Option HouseCount
  lastInterval    : Nat
  largestInterval : Nat
  frozen          : Bool
  down            : Bool
  deriving DecidableEq, Repr

/-- Everything held per stream.
`channels` is the channel count that blocks play the stream by: that of the record at the last accepted ENABLE (R18;
log 35).
`closing` is the in-force tuning as it stood when the present block began, before the copy at that boundary: the tuning
that the boundary's work reads (R19, R86, R98; log 14).
`accepted` says that a segment has been accepted in the present house frame, which keeps a stream in PLAYING at a boundary
taken after it (R40; log 34).
`relockOpen` says that no close of the block peak has been taken since the latest relock: the next one sets the silent run
to 0 and clears SILENCE (R156; log 39).
`tags` lists (slot position, tag) in rising slot position; a position not listed is empty (R44).
`handed` is the output frame handed to the route matrix at the latest frame stage (R83).
The last four flags say which work of the present house frame is still to be taken (log 4): the playout engine's work
(R78), the servo step (R90), the monitor unit's boundary work (R150), and the close of the block peak (R154). -/
structure Stream where
  enabled     : Bool
  record      : StreamRecord
  figures     : Option Figures
  channels    : Nat
  inForce     : Tuning
  closing     : Tuning
  state       : PlayState
  playPoint   : Origin
  frameOrigin : Origin
  newest      : Origin
  anchor      : Option Tag
  fillStart   : Origin
  rejectRun   : Nat
  accepted    : Bool
  quiet       : Nat
  holdover    : Nat
  slipDue     : Slip
  tags        : List (Nat × Tag)
  servo       : Servo
  alarms      : AlarmFlags
  lastOut     : Frame
  handed      : Frame
  concealed   : Counter
  covered     : Counter
  pathA       : PathContext
  pathB       : PathContext
  tightest    : Int
  blockPeak   : Option Nat
  silentRun   : Nat
  silence     : Bool
  relockOpen  : Bool
  frameDue    : Bool
  stepDue     : Bool
  monitorDue  : Bool
  peakDue     : Bool
  deriving DecidableEq, Repr

/-- Sample memory (R42): (address, word) in strictly rising address. A word that is not listed has not been written since
power-on (R53; log 12). -/
abbrev Memory := List (Nat × Sample)

/-- A cover entry (R113). -/
structure CoverEntry where
  inUse   : Bool
  primary : StreamId
  cover   : StreamId
  deriving DecidableEq, Repr

/-! ### Route matrix and gallery bus (spec/08) -/

/-- A route's source kind (R123). -/
inductive SourceKind where
  | stream
  | pattern
  deriving DecidableEq, Repr

/-- A route's enable source (R123). -/
inductive EnableSource where
  | own
  | cutLine
  deriving DecidableEq, Repr

/-- A route record (R123). Every field holds a value, used or not. -/
structure RouteRecord where
  inUse        : Bool
  source       : SourceKind
  stream       : StreamId
  channel      : Fin 16
  slot         : SlotId
  gain         : Fin 32768
  automute     : Bool
  enableSource : EnableSource
  cutLine      : Fin 8
  ownEnable    : Bool
  deriving DecidableEq, Repr

/-- The source part of a driver's identity (R136): a PATTERN source has no stream and no channel. -/
inductive DriverSource where
  | stream (k : StreamId) (channel : Fin 16)
  | pattern
  deriving DecidableEq, Repr

/-- A driver's identity: its source and its gain (R136). -/
structure Driver where
  source : DriverSource
  gain   : Fin 32768
  deriving DecidableEq, Repr

/-- A slot's transition state (R136): none, or the departing driver, or "no driver". -/
inductive Transition where
  | none
  | departing (d : Option Driver)
  deriving DecidableEq, Repr

/-- What is held per slot: fade level and transition (R133, R136), and whether the slot was open and automute held at the
last route matrix event (R146). -/
structure Slot where
  fade       : Nat
  transition : Transition
  open_      : Bool
  automuted  : Bool
  deriving DecidableEq, Repr

/-- Bank 0 or bank 1 (R124). -/
inductive BankId where
  | bank0
  | bank1
  deriving DecidableEq, Repr

/-- 256 route records (R124). -/
abbrev Bank := Vector RouteRecord 256

/-- The route matrix (spec/08). `cutHeld` holds the level of each cut line, bit n for line n, as the matrix last saw
it (R131). `due` says that the event of the present house frame is still to be taken (R130; log 4). -/
structure Matrix where
  bank0       : Bank
  bank1       : Bank
  active      : BankId
  swapWaiting : Bool
  slots       : Vector Slot 256
  live        : Vector Sample 48
  shadow      : Vector Sample 48
  cutHeld     : BitVec 8
  due         : Bool
  deriving DecidableEq, Repr

/-- The gallery bus port (R144): the slot values formed in the present house frame and in the two before it, where any
were formed; the bus frame last sent, by lanes; and whether the bus frame of the present house frame is still to be sent. -/
structure GalleryBus where
  formed0 : Option SlotValues
  formed1 : Option SlotValues
  formed2 : Option SlotValues
  sent    : BusFrame
  due     : Bool
  deriving DecidableEq, Repr

/-! ### Management agent and inputs (spec/11) -/

/-- The device settings (R187) other than those of the ports. -/
structure DeviceSettings where
  unit        : Option Byte
  strap       : Byte
  rephase     : Bool
  patternHold : Bool
  muteMask    : AlarmFlags
  eventEnable : BitVec 11
  alertEnable : BitVec 11
  deriving DecidableEq, Repr

/-- A management request with its request code and object code (spec/12 section 12.1). -/
structure Request where
  code   : Byte
  object : Byte
  env    : Envelope
  deriving DecidableEq, Repr

/-- The inputs as they are driven: cut lines (R131), the protect line (R181) and the reset line (R190). -/
structure Pins where
  cut       : BitVec 8
  protect   : Bool
  resetLine : Bool
  deriving DecidableEq, Repr

end Sys2Proof.Machine
end

