-- ==== Sys2Proof/Machine/Operands.lean ====
section
/-! DEFINITION. The forms in which operands come: byte order and field widths (spec/12), signed differences, clamps and
roundings (spec/00 section 6.2), the codes of requests and objects (spec/12 section 12.2), the tests a port makes on a
segment's own fields (R7), and the splitting of a received frame (R4 to R6). -/

namespace Sys2Proof

/-- A segment's own fields pass the port's tests (R7): stream 1 to 64, 1 to 16 channels, 6, 12, 24 or 48 frames, and at
most 480 samples. Whether the payload is present is a test on the frame. -/
def Segment.fieldsOk (g : Segment) : Bool :=
  decide (1 ≤ g.stream) && decide (g.stream ≤ 64)
    && decide (1 ≤ g.channels) && decide (g.channels ≤ 16)
    && (decide (g.frames = 6) || decide (g.frames = 12) || decide (g.frames = 24) || decide (g.frames = 48))
    && decide (g.channels * g.frames ≤ 480)

/-- A well-formed segment: its fields pass R7 and it carries channel count × frames samples. -/
def Segment.wellFormed (g : Segment) : Bool :=
  g.fieldsOk && decide (g.samples.length = g.channels * g.frames)

namespace Machine

/-! ### Signed differences, clamps, roundings -/

/-- The signed difference of two 32-bit times (spec/00 section 6.2). -/
def timeDiff (a b : BitVec 32) : Int := (a - b).toInt

/-- The signed 16-bit difference of two sequence numbers (spec/00 section 6.2). -/
def seqDiff (a b : Seq) : Int := (a - b).toInt

/-- Replace a value outside `lo` to `hi` by the end it passed (spec/00 section 6.2, Clamp and saturate). -/
def clamp (lo hi x : Int) : Int := max lo (min hi x)

/-- `num / den` rounded to nearest, ties away from zero (spec/00 section 6.2), for a positive `den`. -/
def roundAway (num : Int) (den : Nat) : Int :=
  if 0 ≤ num then (2 * num + den) / (2 * den) else -((2 * (-num) + den) / (2 * den))

/-- An exact result saturated to the sample range (spec/00 section 6.2). -/
def saturateSample (x : Int) : Sample := BitVec.ofInt 24 (clamp (-8388608) 8388607 x)

/-- trunc((a + b) / 2), the average of two samples with the fraction removed toward zero (R103, R104). -/
def averageTrunc (a b : Sample) : Sample := BitVec.ofInt 24 ((a.toInt + b.toInt).tdiv 2)

/-- A counter advanced by `n`, saturating at 4 294 967 295 (spec/00 section 6.2). -/
def Counter.add (c : Counter) (n : Nat) : Counter := BitVec.ofNat 32 (min (c.toNat + n) 4294967295)

/-- A counter advanced by 1, saturating. -/
def Counter.inc (c : Counter) : Counter := Counter.add c 1

/-! ### Byte order: most significant byte first (spec/00 section 6.3) -/

/-- The number that a run of bytes spells. -/
def ofBytes (b : List Byte) : Nat := b.foldl (fun acc x => acc * 256 + x.toNat) 0

/-- The last `size` bytes of a number, most significant first. -/
def toBytes : Nat → Nat → List Byte
  | 0, _ => []
  | size + 1, n => BitVec.ofNat 8 (n / 256 ^ size) :: toBytes size n

/-- The field of `size` bytes at offset `off`. -/
def field (b : List Byte) (off size : Nat) : Nat := ofBytes ((b.drop off).take size)

/-- A signed quantity in two bytes, two's complement (spec/12 section 12.3). -/
def toBytesSigned16 (x : Int) : List Byte := toBytes 2 (BitVec.ofInt 16 x).toNat

/-- A flag byte: 0 for no or off, 1 for yes or on (spec/12). -/
def flagByte (b : Bool) : List Byte := [if b then 1 else 0]

/-- A flag field as a request carries it: a value above 1 is out of range (R192). -/
def readFlag (n : Nat) : Option Bool :=
  match n with
  | 0 => some false
  | 1 => some true
  | _ => none

/-- The samples that a run of bytes spells, three bytes each, `count` of them (spec/12). -/
def readSamples : Nat → List Byte → List Sample
  | 0, _ => []
  | count + 1, b => BitVec.ofNat 24 (field b 0 3) :: readSamples count (b.drop 3)

/-- A number as a place of a table of `n` records, where it is one. -/
def readFin (n v : Nat) : Option (Fin n) := if h : v < n then some ⟨v, h⟩ else none

/-- The place of the stream that a field names: 1 to 64, and 0 or above 64 name none (R17). -/
def readStreamId (v : Nat) : Option StreamId := if v = 0 then none else readFin 64 (v - 1)

/-! ### Codes (spec/12 section 12.2) -/

/-- The outcomes of a request and their codes (spec/11 section 11.1, spec/12 section 12.2). -/
inductive Result where
  | ok
  | clamped
  | busy
  | prot
  | badObject
  | badIndex
  | badValue
  | overlap
  | state
  deriving DecidableEq, Repr

/-- The outcome code (spec/12 section 12.2). -/
def Result.code : Result → Byte
  | .ok => 0
  | .clamped => 1
  | .busy => 2
  | .prot => 3
  | .badObject => 4
  | .badIndex => 5
  | .badValue => 6
  | .overlap => 7
  | .state => 8

/-- An outcome under which the request was executed (spec/11 section 11.1). -/
def Result.executed : Result → Bool
  | .ok => true
  | .clamped => true
  | .busy => false
  | .prot => false
  | .badObject => false
  | .badIndex => false
  | .badValue => false
  | .overlap => false
  | .state => false

/-- The eleven requests (spec/11 section 11.4). -/
inductive RequestKind where
  | read
  | write
  | enable
  | disable
  | relock
  | swap
  | copy
  | peekEvents
  | readEvents
  | collect
  | reset
  deriving DecidableEq, Repr

/-- The request that a request code names; 0 and 12 to 255 are unknown. -/
def requestKind (code : Byte) : Option RequestKind :=
  match code.toNat with
  | 1 => some .read
  | 2 => some .write
  | 3 => some .enable
  | 4 => some .disable
  | 5 => some .relock
  | 6 => some .swap
  | 7 => some .copy
  | 8 => some .peekEvents
  | 9 => some .readEvents
  | 10 => some .collect
  | 11 => some .reset
  | _ => none

/-- The eleven objects (spec/11 section 11.4). -/
inductive ObjectKind where
  | stream
  | streamStatus
  | routeActive
  | routeStandby
  | cover
  | pattern
  | device
  | portCounters
  | pathCounters
  | monitors
  | timebase
  deriving DecidableEq, Repr

/-- The object that an object code names; 0 and 12 to 255 name none. -/
def objectKind (code : Byte) : Option ObjectKind :=
  match code.toNat with
  | 1 => some .stream
  | 2 => some .streamStatus
  | 3 => some .routeActive
  | 4 => some .routeStandby
  | 5 => some .cover
  | 6 => some .pattern
  | 7 => some .device
  | 8 => some .portCounters
  | 9 => some .pathCounters
  | 10 => some .monitors
  | 11 => some .timebase
  | _ => none

/-- The lowest index of an object and how many records it has (spec/11 section 11.4). -/
def ObjectKind.range : ObjectKind → Nat × Nat
  | .stream => (1, 64)
  | .streamStatus => (1, 64)
  | .pathCounters => (1, 64)
  | .monitors => (1, 64)
  | .routeActive => (0, 256)
  | .routeStandby => (0, 256)
  | .cover => (0, 8)
  | .pattern => (0, 48)
  | .portCounters => (0, 2)
  | .device => (0, 1)
  | .timebase => (0, 1)

/-- The request applies to the object, by the table of section 11.4. SWAP, COPY, PEEK_EVENTS, READ_EVENTS and RESET
disregard the object. -/
def RequestKind.applies (r : RequestKind) (object : Byte) : Bool :=
  match r, objectKind object with
  | .read, some _ => true
  | .write, some .stream => true
  | .write, some .routeStandby => true
  | .write, some .cover => true
  | .write, some .pattern => true
  | .write, some .device => true
  | .enable, some .stream => true
  | .disable, some .stream => true
  | .relock, some .stream => true
  | .collect, some .portCounters => true
  | .collect, some .pathCounters => true
  | .collect, some .monitors => true
  | .swap, _ => true
  | .copy, _ => true
  | .peekEvents, _ => true
  | .readEvents, _ => true
  | .reset, _ => true
  | _, _ => false

/-- The count is 1 to 16, and index to index + count − 1 name records of the object (check 4 of R177). -/
def indexOk (o : ObjectKind) (index count : Nat) : Bool :=
  decide (1 ≤ count) && decide (count ≤ 16) && decide (o.range.1 ≤ index)
    && decide (index + count ≤ o.range.1 + o.range.2)

/-- The numbers index, index + 1, …, index + count − 1: the records a request names, in ascending index. -/
def named (index count : Nat) : List Nat := List.range' index count

/-! ### Received frames (R4 to R7, R10) -/

/-- The parts of a received frame that the tests of R5 and R6 read. `transport` runs from the byte after the EtherType
to the last byte before the frame check sequence. -/
structure FrameParts where
  dest      : Mac
  source    : Mac
  vlan      : Option VlanTag
  etherType : EtherType
  transport : List Byte
  deriving DecidableEq, Repr

/-- The frame's length, from the destination address to the end of the frame check sequence, is 64 to 1536 (R4). -/
def RxFrame.lengthOk (f : RxFrame) : Bool := decide (64 ≤ f.bytes.length) && decide (f.bytes.length ≤ 1536)

/-- The parts of a frame (R5): after the source address, 0x8100 marks a VLAN tag of four bytes, and the next two bytes
are the EtherType. The last four bytes of the frame are its frame check sequence. -/
def splitFrame (bytes : List Byte) : FrameParts :=
  let body := bytes.take (bytes.length - 4)
  let dest := BitVec.ofNat 48 (field body 0 6)
  let source := BitVec.ofNat 48 (field body 6 6)
  if field body 12 2 = 0x8100 then
    let tci := field body 14 2
    { dest := dest, source := source,
      vlan := some { vid := BitVec.ofNat 12 tci, priority := BitVec.ofNat 3 (tci / 8192) },
      etherType := BitVec.ofNat 16 (field body 16 2), transport := body.drop 18 }
  else
    { dest := dest, source := source, vlan := none, etherType := BitVec.ofNat 16 (field body 12 2),
      transport := body.drop 14 }

/-- A group address: the least significant bit of its first byte is set (R2, R5). -/
def isGroup (m : Mac) : Bool := m.getLsbD 40

/-- The segment that the transport bytes of a kind-1 frame carry (spec/12 section 12.1). -/
def readSegment (t : List Byte) : Segment :=
  let channels := field t 3 1
  let frames := field t 4 1
  { stream := field t 2 1, channels := channels, frames := frames, seq := BitVec.ofNat 16 (field t 5 2),
    origin := BitVec.ofNat 32 (field t 7 4), samples := readSamples (channels * frames) (t.drop 11) }

/-- A kind-1 frame is well-formed (R7): the segment's own fields pass, and the frame does not end before the end of the
11-byte header and the payload. -/
def segmentFits (t : List Byte) : Bool :=
  (readSegment t).fieldsOk
    && decide (11 + (readSegment t).channels * (readSegment t).frames * 3 ≤ t.length)

/-- A kind-2 frame reaches the end of the 12-byte request header (R10). -/
def headerFits (t : List Byte) : Bool := decide (12 ≤ t.length)

/-- The request that the transport bytes of a kind-2 frame carry, with the port and the frame's source address and tag
(R10, spec/12 section 12.1). Its data is every byte from offset 12 to the frame check sequence (log 19). -/
def readRequest (p : Port) (f : FrameParts) : Request :=
  let t := f.transport
  { code := BitVec.ofNat 8 (field t 3 1), object := BitVec.ofNat 8 (field t 4 1),
    env := { port := p, source := f.source, vlan := f.vlan, unit := BitVec.ofNat 8 (field t 2 1),
             index := BitVec.ofNat 8 (field t 5 1), count := BitVec.ofNat 8 (field t 6 1),
             tag := BitVec.ofNat 32 (field t 7 4), data := t.drop 12 } }

end Machine

end Sys2Proof
end

