-- ==== Sys2Proof/Machine/Defaults.lean ====
section
/-! DEFINITION. The values that power-on and the resets give: default records, cleared counters and captures, and the
power-on state of each block, as the manual's tables list them. -/

namespace Sys2Proof.Machine

/-- All port counters 0 (R15). -/
def PortCounters.zero : PortCounters := ⟨0, 0, 0, 0, 0, 0, 0, 0⟩

/-- The transport type a port takes at power-on (R1). -/
def defaultEtherType : EtherType := 0x88B5

/-- The station address a port takes at power-on: 02-4E-41-00, the strap value, then 0A for port A and 0B for
port B (R1). -/
def strapStation (strap : Byte) : Port → Mac
  | .a => (0x024E4100#32) ++ strap ++ (0x0A#8)
  | .b => (0x024E4100#32) ++ strap ++ (0x0B#8)

/-- A port at power-on, with its link state as reported (R1, R15). -/
def LinkPort.powerOn (strap : Byte) (p : Port) (linkUp : Bool) : LinkPort :=
  { station := strapStation strap p, etherType := defaultEtherType, linkUp := linkUp, queue := [],
    counters := PortCounters.zero }

/-- The timebase at power-on (R65). -/
def Timebase.powerOn : Timebase :=
  { h := 0, phase := 0, ref := .freeRun, missedRun := 0, goodRun := 0, lastMark := 0, spanOpen := false,
    firstDue := true }

/-- No alarm active (R176). -/
def AlarmFlags.none : AlarmFlags := ⟨false, false, false, false, false⟩

/-- The power-on mute mask (R164). -/
def AlarmFlags.powerOnMask : AlarmFlags := ⟨false, false, true, true, true⟩

/-- The alarm and event unit after every reset (R176). -/
def EventUnit.cleared : EventUnit :=
  { refLost := false, events := [], alertPending := false, alertDest := Option.none }

/-- The structural fields of a default record (R21). -/
def Shape.default : Shape :=
  { channels := 2, segLen := 12, basePage := 0, pageCount := 1, holdDepth := 96, admission := .both }

/-- The tuning fields of a default record (R21). -/
def Tuning.default : Tuning :=
  { starveTimeout := 20, holdoverLimit := 2000, pathTimeout := 20, fill := .fade, gain := 4, deadband := 2,
    rmax := 1024, watch := Option.none, silenceThreshold := 64, silenceWindow := 5000 }

/-- A default stream record (R21). -/
def StreamRecord.default : StreamRecord := ⟨Shape.default, Tuning.default⟩

/-- The servo at zero (R102). -/
def Servo.zero : Servo :=
  { s := 0, r := 0, q := 0, direction := .none, lead := 0, error := 0, unclamped := 0 }

/-- All path counters 0 (R27). -/
def PathCounters.zero : PathCounters := ⟨0, 0, 0, 0, 0, 0, 0, 0⟩

/-- A (stream, path) context after every reset (R27, R160). -/
def PathContext.cleared : PathContext :=
  { expected := Option.none, blocksSince := 0, counters := PathCounters.zero, lastArrival := Option.none,
    lastInterval := 0, largestInterval := 0, frozen := false, down := false }

/-- A frame of zeros. -/
def Frame.zero : Frame := Vector.replicate 16 0

/-- A stream at power-on (R21, R27, R53, R77, R102, R109, R122, R160). -/
def Stream.powerOn : Stream :=
  { enabled := false, record := StreamRecord.default, figures := Option.none,
    channels := Shape.default.channels, inForce := Tuning.default,
    closing := Tuning.default, state := .idle, playPoint := 0, frameOrigin := 0, newest := 0, anchor := Option.none,
    fillStart := 0, rejectRun := 0, accepted := false, quiet := 0, holdover := 0, slipDue := .none, tags := [],
    servo := Servo.zero, alarms := AlarmFlags.none, lastOut := Frame.zero, handed := Frame.zero, concealed := 0, covered := 0,
    pathA := PathContext.cleared, pathB := PathContext.cleared, tightest := 32767, blockPeak := Option.none,
    silentRun := 0, silence := false, relockOpen := false, frameDue := false, stepDue := false, monitorDue := false, peakDue := false }

/-- A default cover entry: not in use, primary 1, cover 2 (R113). -/
def CoverEntry.default : CoverEntry := { inUse := false, primary := 0, cover := 1 }

/-- A default route record (R127). Its cut line number is 0: R127 names no line beside the enable source OWN, and section
12.3 of spec/12 wants the byte to hold 0 to 7 (DESIGN CHOICE: log 37). -/
def RouteRecord.default : RouteRecord :=
  { inUse := false, source := .stream, stream := 0, channel := 0, slot := 0, gain := 16384, automute := true,
    enableSource := .own, cutLine := 0, ownEnable := false }

/-- A bank of default records (R127). -/
def Bank.default : Bank := Vector.replicate 256 RouteRecord.default

/-- A slot at power-on (R133, R138; the status of an event not yet taken is log 20). -/
def Slot.powerOn : Slot := { fade := 0, transition := .none, open_ := false, automuted := false }

/-- The route matrix at power-on, holding the cut line levels as driven (R127, R131, R133, R143). -/
def Matrix.powerOn (cut : BitVec 8) : Matrix :=
  { bank0 := Bank.default, bank1 := Bank.default, active := .bank0, swapWaiting := false,
    slots := Vector.replicate 256 Slot.powerOn, live := Vector.replicate 48 0, shadow := Vector.replicate 48 0,
    cutHeld := cut, due := false }

/-- A bus frame of zeros (R144). -/
def BusFrame.zero : BusFrame := Vector.replicate 8 (Vector.replicate 32 0)

/-- The gallery bus port at power-on (R144; what it last sent is log 23). -/
def GalleryBus.powerOn : GalleryBus :=
  { formed0 := Option.none, formed1 := Option.none, formed2 := Option.none, sent := BusFrame.zero, due := false }

/-- The unit address that a strap value gives: the value if it is 1 to 254, and none if it is 0 or 255 (R191). -/
def strapUnit (strap : Byte) : Option Byte :=
  if strap = 0 ∨ strap = 255 then Option.none else some strap

/-- The device settings at power-on (R187, R191). -/
def DeviceSettings.powerOn (strap : Byte) : DeviceSettings :=
  { unit := strapUnit strap, strap := strap, rephase := true, patternHold := false,
    muteMask := AlarmFlags.powerOnMask, eventEnable := BitVec.allOnes 11, alertEnable := BitVec.allOnes 11 }

end Sys2Proof.Machine
end

