-- ==== Sys2Proof/Machine/State.lean ====
section
/-! DEFINITION. The machine's state, the reasons a step could stop, and the state right after power-on. -/

namespace Sys2Proof.Machine

/-- Why a step would stop with a fault. It has no constructor: the manual gives every event of the block an effect in
every state, and no command of this model ends in a fault. -/
inductive Fault where
  deriving DecidableEq, Repr

/-- Why a command would be refused by the model. -/
inductive Refusal where
  /-- Raised by the dispatcher alone, for a row that has no meaning yet. Safe: nothing is claimed about the row. No arm
  of the dispatcher uses it. -/
  | notModelled (mnemonic : String)
  deriving DecidableEq, Repr

/-- The whole block. `pending` is the queue of commands that wait, first in first out (the model's own field). `epoch`
counts the power-ons: it is the argument of the free value that an unwritten sample word reads as (log 12).
`copyDue` says that the stream table's copy of the present block boundary is still to be taken (R19, R55; log 4).
`inProgress` is the SWAP in progress with the details its reply needs (R180, R186). -/
structure State where
  pending    : List Instr
  tb         : Timebase
  portA      : LinkPort
  portB      : LinkPort
  dev        : DeviceSettings
  streams    : Vector Stream 64
  copyDue    : Bool
  mem        : Memory
  cover      : Vector CoverEntry 8
  matrix     : Matrix
  bus        : GalleryBus
  ev         : EventUnit
  inProgress : Option Request
  pins       : Pins
  epoch      : Nat
  deriving DecidableEq, Repr

/-- The machine after power-on, with straps and inputs as given (R1, R21, R53, R65, R77, R113, R127, R176, R191). -/
def State.powerOn (strap : Byte) (linkA linkB : Bool) (pins : Pins) (epoch : Nat) (pending : List Instr) : State :=
  { pending := pending, tb := Timebase.powerOn, portA := LinkPort.powerOn strap .a linkA,
    portB := LinkPort.powerOn strap .b linkB, dev := DeviceSettings.powerOn strap,
    streams := Vector.replicate 64 Stream.powerOn, copyDue := false, mem := [], cover := Vector.replicate 8 CoverEntry.default,
    matrix := Matrix.powerOn pins.cut, bus := GalleryBus.powerOn, ev := EventUnit.cleared,
    inProgress := none, pins := pins, epoch := epoch }

/-- The machine right after power-on. The straps read 7, as in the manual's worked examples (DESIGN CHOICE, unsafe:
log 10); both links are UP, and the cut, protect and reset lines are released (DESIGN CHOICE, unsafe: log 11). -/
def State.reset : State :=
  State.powerOn 7 true true { cut := 0, protect := false, resetLine := false } 0 []

end Sys2Proof.Machine
end

