-- ==== Sys2Proof/Machine/Ops.lean ====
section
/-! DEFINITION. The named operations over the state: access to ports, streams and their path contexts, sample memory and
tags, and the hand-over of a formed frame to a port. -/

namespace Sys2Proof.Machine

/-! ### Ports -/

/-- The port of a name. -/
def State.port (s : State) : Port → LinkPort
  | .a => s.portA
  | .b => s.portB

/-- Change one port. -/
def State.modPort (s : State) (p : Port) (f : LinkPort → LinkPort) : State :=
  match p with
  | .a => { s with portA := f s.portA }
  | .b => { s with portB := f s.portB }

/-- A formed frame handed to a port: it joins the transmit queue, and it is lost if the link is DOWN (R3) or the queue
holds 4 frames (R12). -/
def LinkPort.hand (l : LinkPort) (f : TxFrame) : LinkPort :=
  if l.linkUp && decide (l.queue.length < 4) then { l with queue := l.queue ++ [f] } else l

/-- The length of a formed frame: its addresses, tag, EtherType, transport bytes and frame check sequence, padded to the
Ethernet minimum of 64 bytes (R11). -/
def TxFrame.length (f : TxFrame) : Nat :=
  max 64 (14 + (if f.vlan.isSome then 4 else 0) + f.transport.length + 4)

/-- Change the counters of one port. -/
def State.countPort (s : State) (p : Port) (f : PortCounters → PortCounters) : State :=
  s.modPort p fun l => { l with counters := f l.counters }

/-! ### Streams -/

/-- The stream at a place. -/
def State.stream (s : State) (k : StreamId) : Stream := s.streams[k]

/-- Change one stream. -/
def State.modStream (s : State) (k : StreamId) (f : Stream → Stream) : State :=
  { s with streams := s.streams.set k (f s.streams[k]) }

/-- Change every stream. -/
def State.mapStreams (s : State) (f : Stream → Stream) : State :=
  { s with streams := s.streams.map f }

/-- The context of a stream's path. -/
def Stream.path (st : Stream) : Port → PathContext
  | .a => st.pathA
  | .b => st.pathB

/-- Change the context of one path. -/
def Stream.modPath (st : Stream) (p : Port) (f : PathContext → PathContext) : Stream :=
  match p with
  | .a => { st with pathA := f st.pathA }
  | .b => { st with pathB := f st.pathB }

/-- The figures in use. An enabled stream has figures (R25); the zeros for a stream without are never used by an enabled
one (log 27). -/
def Stream.fig (st : Stream) : Figures := st.figures.getD ⟨0, 0, 0⟩

/-- The path admission includes the port (R8). -/
def Admission.includes : Admission → Port → Bool
  | .a, .a => true
  | .a, .b => false
  | .b, .a => false
  | .b, .b => true
  | .both, _ => true

/-! ### Keyed lists: sample memory and tags -/

/-- What a keyed list holds at a key. -/
def lookupKey {α : Type} (m : List (Nat × α)) (key : Nat) : Option α :=
  match m with
  | [] => none
  | (k, v) :: rest => if k = key then some v else lookupKey rest key

/-- Set a key of a list in rising key order, keeping the order. -/
def insertKey {α : Type} (m : List (Nat × α)) (key : Nat) (value : α) : List (Nat × α) :=
  match m with
  | [] => [(key, value)]
  | (k, v) :: rest =>
    if key < k then (key, value) :: (k, v) :: rest
    else if key = k then (key, value) :: rest
    else (k, v) :: insertKey rest key value

/-- The keys rise strictly: the one form a keyed list has. -/
def keysRise {α : Type} : List (Nat × α) → Bool
  | [] => true
  | [_] => true
  | (k, _) :: (k', v') :: rest => decide (k < k') && keysRise ((k', v') :: rest)

/-- How many words sample memory holds: 2048 pages of 768 words (R42). -/
def memoryWords : Nat := 1572864

/-- The canonical form of sample memory: strictly rising addresses, each below `memoryWords`. -/
def Memory.wf (m : Memory) : Bool := keysRise m && m.all fun c => decide (c.1 < memoryWords)

/-- The sample at an address. A word that nothing has written since power-on has an unknown value (R53; log 12). -/
def State.readWord (s : State) (address : Nat) : Sample :=
  (lookupKey s.mem address).getD (Config.powerOnWord s.epoch address)

/-- Write consecutive words from an address. Words beyond the memory's end do not exist and are not written. -/
def writeWords (m : Memory) (address : Nat) : List Sample → Memory
  | [] => m
  | x :: xs => writeWords (if address < memoryWords then insertKey m address x else m) (address + 1) xs

/-- The address of channel 0 of frame `o` of slot position `i` of a ring (R43, R50). -/
def wordAddress (sh : Shape) (i o : Nat) : Nat := sh.basePage * 768 + (i * sh.segLen + o) * sh.channels

/-! ### Presence of a frame (R49, R50) -/

/-- Where the frame of origin `x` is held, if it is present: its slot position and its offset in the segment (R49). -/
def Stream.locate (st : Stream) (x : Origin) : Option (Nat × Nat) :=
  match st.anchor with
  | none => none
  | some a =>
    let len : Int := st.record.shape.segLen
    let d := timeDiff x a.origin
    let k := d.fdiv len
    let q : Seq := a.seq + BitVec.ofInt 16 k
    let o := d - k * len
    let t : Origin := a.origin + BitVec.ofInt 32 (k * len)
    let i := q.toNat % st.fig.slots
    if lookupKey st.tags i = some ⟨q, t⟩ then some (i, o.toNat) else none

/-- The frame of origin `x` of the stream at a place, where it is present: channel c for c below the channel count, and 0
in the channels beyond it (R50). -/
def State.frameAt (s : State) (k : StreamId) (x : Origin) : Option Frame :=
  let st := s.stream k
  match st.locate x with
  | none => none
  | some (i, o) =>
    let base := wordAddress st.record.shape i o
    some (Vector.ofFn fun c : Fin 16 =>
      if c.val < st.record.shape.channels then s.readWord (base + c.val) else 0)

end Sys2Proof.Machine
end

