-- ==== Sys2Proof/Machine/Flags.lean ====
section
/-! DEFINITION. The active alarm set, the event set and the alert state (spec/10): the raise, clear and latch hand-offs
that the other blocks make, and the alert notice. -/

namespace Sys2Proof.Machine

/-! ### Alarm flags -/

/-- Whether a kind's flag is set. -/
def AlarmFlags.get (f : AlarmFlags) : StreamAlarm → Bool
  | .starved => f.starved
  | .servoLimit => f.servoLimit
  | .pathADown => f.pathADown
  | .pathBDown => f.pathBDown
  | .silence => f.silence

/-- Set or clear a kind's flag. -/
def AlarmFlags.set (f : AlarmFlags) (a : StreamAlarm) (v : Bool) : AlarmFlags :=
  match a with
  | .starved => { f with starved := v }
  | .servoLimit => { f with servoLimit := v }
  | .pathADown => { f with pathADown := v }
  | .pathBDown => { f with pathBDown := v }
  | .silence => { f with silence := v }

/-- The flags as one byte: bit 0 STARVED, bit 1 SERVO_LIMIT, bit 2 PATH_A_DOWN, bit 3 PATH_B_DOWN, bit 4 SILENCE
(spec/12 section 12.2). -/
def AlarmFlags.toByte (f : AlarmFlags) : Byte :=
  (if f.starved then 1 else 0) ||| (if f.servoLimit then 2 else 0) ||| (if f.pathADown then 4 else 0)
    ||| (if f.pathBDown then 8 else 0) ||| (if f.silence then 16 else 0)

/-- The flags that a byte carries; bits 5 to 7 are disregarded (R192). -/
def AlarmFlags.ofByte (b : Byte) : AlarmFlags :=
  ⟨b.getLsbD 0, b.getLsbD 1, b.getLsbD 2, b.getLsbD 3, b.getLsbD 4⟩

/-- Automute is in force: some active kind has its mute-mask bit clear (R132, R163). -/
def AlarmFlags.automute (active mask : AlarmFlags) : Bool :=
  (active.starved && !mask.starved) || (active.servoLimit && !mask.servoLimit)
    || (active.pathADown && !mask.pathADown) || (active.pathBDown && !mask.pathBDown)
    || (active.silence && !mask.silence)

/-! ### The event set -/

/-- A kind's priority, which is also its code (spec/10 section 10.3, spec/12 section 12.2). -/
def EventKind.priority : EventKind → Nat
  | .refLost => 1
  | .starved => 2
  | .relocked => 3
  | .servoLimit => 4
  | .pathADown => 5
  | .pathBDown => 6
  | .silence => 7
  | .markSlip => 8
  | .refRestored => 9
  | .locked => 10
  | .bankSwapped => 11

/-- The event that the raise of an alarm latches (R161). -/
def StreamAlarm.event : StreamAlarm → EventKind
  | .starved => .starved
  | .servoLimit => .servoLimit
  | .pathADown => .pathADown
  | .pathBDown => .pathBDown
  | .silence => .silence

/-- The condition of a path (R150). -/
def pathAlarm : Port → StreamAlarm
  | .a => .pathADown
  | .b => .pathBDown

/-- Where a pair stands in the order of R169: priority, then stream. -/
def eventKey (kind : EventKind) (stream : Nat) : Nat := kind.priority * 65 + stream

/-- The place of an entry in the order of R169. -/
def EventEntry.key (e : EventEntry) : Nat := eventKey e.kind e.stream

/-- A latch into the event set: a new pair with count 1, or one more occurrence of a pending pair, saturating at 255
(R166). The list stays in the order of R169. -/
def latchInto (kind : EventKind) (stream : Nat) : List EventEntry → List EventEntry
  | [] => [⟨kind, stream, 1⟩]
  | e :: rest =>
    if e.kind = kind ∧ e.stream = stream then { e with count := min (e.count + 1) 255 } :: rest
    else if eventKey kind stream < e.key then ⟨kind, stream, 1⟩ :: e :: rest
    else e :: latchInto kind stream rest

/-- The occurrence count of a pair, 0 if it is not pending. -/
def pendingCount (kind : EventKind) (stream : Nat) (events : List EventEntry) : Nat :=
  match events.find? fun e => decide (e.kind = kind ∧ e.stream = stream) with
  | some e => e.count
  | none => 0

/-! ### Alert notices -/

/-- A unit address byte as the part sends it; an absent address reads 0 (R193). -/
def unitByte (u : Option Byte) : Byte := u.getD 0

/-- The alert notice for a latched pair (R11, R173, spec/12 section 12.1). -/
def State.alertNotice (s : State) (d : AlertDest) (kind : EventKind) (stream : Nat) : TxFrame :=
  { kind := .notice, dest := d.address, source := (s.port d.port).station, vlan := d.vlan,
    etherType := (s.port d.port).etherType,
    transport := [4, 1, unitByte s.dev.unit, BitVec.ofNat 8 kind.priority, BitVec.ofNat 8 stream,
                  BitVec.ofNat 8 (pendingCount kind stream s.ev.events)]
                 ++ toBytes 2 s.ev.events.length }

/-- A latched pair offered to the alert state (R173): a notice is sent, and alert pending set, when the kind's
alert-enable bit is set, alert pending is no and the destination exists. -/
def State.offerAlert (s : State) (kind : EventKind) (stream : Nat) : State :=
  if s.dev.alertEnable.getLsbD (kind.priority - 1) && !s.ev.alertPending then
    match s.ev.alertDest with
    | none => s
    | some d =>
      { s.modPort d.port fun l => l.hand (s.alertNotice d kind stream) with
        ev := { s.ev with alertPending := true } }
  else s

/-- A latch hand-off (R166). A kind whose event-enable bit is clear is disregarded. -/
def State.latch (s : State) (kind : EventKind) (stream : Nat) : State :=
  if s.dev.eventEnable.getLsbD (kind.priority - 1) then
    State.offerAlert { s with ev := { s.ev with events := latchInto kind stream s.ev.events } } kind stream
  else s

/-! ### Raise and clear hand-offs -/

/-- Put a stream alarm into the active alarm set or take it out. -/
def State.setAlarm (s : State) (k : StreamId) (a : StreamAlarm) (v : Bool) : State :=
  s.modStream k fun st => { st with alarms := st.alarms.set a v }

/-- A raise hand-off of a stream alarm (R161): an absent pair enters the set and its event is latched. -/
def State.raise (s : State) (k : StreamId) (a : StreamAlarm) : State :=
  if (s.stream k).alarms.get a then s else (s.setAlarm k a true).latch a.event k.number

/-- A clear hand-off of a stream alarm (R161). It latches nothing. -/
def State.clearAlarm (s : State) (k : StreamId) (a : StreamAlarm) : State := s.setAlarm k a false

/-- The raise of REF_LOST, a device alarm with stream 0 (R57, R161). -/
def State.raiseRefLost (s : State) : State :=
  if s.ev.refLost then s else State.latch { s with ev := { s.ev with refLost := true } } .refLost 0

/-- The clear of REF_LOST (R59, R161). -/
def State.clearRefLost (s : State) : State := { s with ev := { s.ev with refLost := false } }

end Sys2Proof.Machine
end

