-- ==== Sys2Proof/Machine/Reply.lean ====
section
/-! DEFINITION. The reply to a management request (R11, R179, R193). -/

namespace Sys2Proof.Machine

/-- The reply frame (R11, R193): the received fields echoed, the unit address the part holds, the outcome and the data.
Whoever forms it gives the data of the outcome: none for a refusal. -/
def State.replyFrame (s : State) (r : Request) (res : Result) (data : List Byte) : TxFrame :=
  { kind := .reply, dest := r.env.source, source := (s.port r.env.port).station, vlan := r.env.vlan,
    etherType := (s.port r.env.port).etherType,
    transport := [3, 1, unitByte s.dev.unit, r.code, r.object, r.env.index, r.env.count]
                 ++ toBytes 4 r.env.tag.toNat ++ [res.code] ++ toBytes 2 data.length ++ data }

/-- The request was sent to the general address (R178). -/
def Request.general (r : Request) : Bool := decide (r.env.unit = 0)

/-- The reply handed to the port the request came in on (R11). A general request is answered in no case (R179). -/
def State.answer (s : State) (r : Request) (res : Result) (data : List Byte) : State :=
  if r.general then s else s.modPort r.env.port fun l => l.hand (s.replyFrame r res data)

end Sys2Proof.Machine
end

