-- ==== Sys2Proof/Machine/Matrix.lean ====
section
/-! DEFINITION. The route matrix and the gallery bus port (spec/08), with the commands CUT_LINE_CHANGE,
ROUTE_MATRIX_EVENT, SWAP_PERFORMED, TRANSITION_END and GALLERY_BUS_FRAME. -/

namespace Sys2Proof.Machine

/-! ### Banks and drivers -/

/-- The other bank. -/
def BankId.other : BankId → BankId
  | .bank0 => .bank1
  | .bank1 => .bank0

/-- The records of a bank. -/
def Matrix.bank (m : Matrix) : BankId → Bank
  | .bank0 => m.bank0
  | .bank1 => m.bank1

/-- The active bank's records (R124). -/
def Matrix.activeBank (m : Matrix) : Bank := m.bank m.active

/-- The standby bank's records (R124). -/
def Matrix.standbyBank (m : Matrix) : Bank := m.bank m.active.other

/-- Replace the standby bank's records. -/
def Matrix.setStandby (m : Matrix) (b : Bank) : Matrix :=
  match m.active with
  | .bank0 => { m with bank1 := b }
  | .bank1 => { m with bank0 := b }

/-- A record that drives or is shadowed in a slot: in use and naming it (R128). -/
def RouteRecord.names (r : RouteRecord) (j : SlotId) : Bool := r.inUse && decide (r.slot = j)

/-- The record that drives a slot: the lowest-numbered route in use that names it (R128). -/
def driverRoute (b : Bank) (j : SlotId) : Option RouteRecord := b.toList.find? fun r => r.names j

/-- A record's identity as a driver (R136). -/
def RouteRecord.driver (r : RouteRecord) : Driver :=
  { source := match r.source with
      | .stream => .stream r.stream r.channel
      | .pattern => .pattern,
    gain := r.gain }

/-- The driver's identity that a bank gives a slot, or none for "no driver" (R136). -/
def driverOf (b : Bank) (j : SlotId) : Option Driver := (driverRoute b j).map RouteRecord.driver

/-! ### Open condition and fade level -/

/-- The enable condition of a route (R131). -/
def Matrix.enableHolds (m : Matrix) (r : RouteRecord) : Bool :=
  match r.enableSource with
  | .own => r.ownEnable
  | .cutLine => m.cutHeld.getLsbD r.cutLine.val

/-- Automute holds for a route (R132). -/
def State.automuteHolds (s : State) (r : RouteRecord) : Bool :=
  r.automute && decide (r.source = .stream) && (s.stream r.stream).alarms.automute s.dev.muteMask

/-- The slot is open under its arriving driver (R133). -/
def State.openUnder (s : State) : Option RouteRecord → Bool
  | none => false
  | some r => s.matrix.enableHolds r && !s.automuteHolds r

/-- The fade level's step (R133). -/
def fadeStep (opened : Bool) (m : Nat) : Nat :=
  if opened then (if m < 48 then m + 1 else m) else m - 1

/-! ### Slot values -/

/-- The source sample of a driver for the present house frame (R129). The channel count is that of the stream's record as the
last accepted ENABLE put it in force: a WRITE of the disabled record has no effect on any block until the next ENABLE (R18;
DEDUCED: log 35). -/
def State.sourceSample (s : State) : DriverSource → Sample
  | .stream k c => if c.val < (s.stream k).channels then (s.stream k).handed[c] else 0
  | .pattern => s.matrix.live[s.tb.phase]

/-- The effective gain of a contributor (R139). -/
def effectiveGain (g m w : Nat) : Nat := g * m / 48 * w / 48

/-- What a contributor adds to the sum of its slot (R140). -/
def State.contribution (s : State) (d : Option Driver) (m w : Nat) : Int :=
  match d with
  | none => 0
  | some d => (s.sourceSample d.source).toInt * (effectiveGain d.gain.val m w : Nat)

/-- The sum over the contributing drivers of a slot, with the fade level after its step (R137, R140). -/
def State.slotSum (s : State) (t : Transition) (arriving : Option Driver) (m : Nat) : Int :=
  match t with
  | .none => s.contribution arriving m 48
  | .departing d => s.contribution d m (48 - s.tb.phase.val) + s.contribution arriving m s.tb.phase.val

/-- The slot value: the sum divided by 16384, rounded to nearest with ties away from zero, and saturated (R140). -/
def slotValue (sum : Int) : Sample := saturateSample (roundAway sum 16384)

/-- A slot after the route matrix event, from its arriving route (R133, R146). -/
def State.stepSlot (s : State) (slot : Slot) (r : Option RouteRecord) : Slot :=
  { slot with fade := fadeStep (s.openUnder r) slot.fade, open_ := s.openUnder r,
              automuted := match r with
                | none => false
                | some r => s.automuteHolds r }

/-- The event's work on every slot: fade levels stepped, then the values formed from them and handed to the gallery bus
port (R130). -/
def State.formSlots (s : State) : State :=
  let b := s.matrix.activeBank
  let slots : Vector Slot 256 := Vector.ofFn fun j => s.stepSlot s.matrix.slots[j] (driverRoute b j)
  let values : SlotValues := Vector.ofFn fun j =>
    slotValue (s.slotSum slots[j].transition (driverOf b j) slots[j].fade)
  { s with matrix := { s.matrix with slots := slots, due := false }, bus := { s.bus with formed0 := some values } }

/-! ### Boundary work -/

/-- A slot leaves its transition (R137, R138). -/
def Slot.settled (t : Slot) : Slot := { t with transition := .none }

/-- Every slot in transition leaves it (R137). -/
def Matrix.endTransitions (m : Matrix) : Matrix := { m with slots := m.slots.map Slot.settled }

/-- The exchange of the banks (R135): a slot whose driver's identity changes enters a transition from the departing driver
(R136). -/
def Matrix.exchange (m : Matrix) : Matrix :=
  { m with
    active := m.active.other, swapWaiting := false,
    slots := Vector.ofFn fun j =>
      if driverOf m.activeBank j = driverOf m.standbyBank j then m.slots[j]
      else { m.slots[j] with transition := .departing (driverOf m.activeBank j) } }

/-- The SWAP in progress is answered OK and completes (R186). -/
def State.completeSwap (s : State) : State :=
  match s.inProgress with
  | none => s
  | some r => { s.answer r .ok [] with inProgress := none }

/-- A waiting SWAP is performed (R134, R135, R186): exchange, BANK_SWAPPED, and then the reply. -/
def State.performSwap (s : State) : State :=
  (State.latch { s with matrix := s.matrix.exchange } .bankSwapped 0).completeSwap

/-- The pattern shadow is copied to the live table unless pattern hold is on (R142). -/
def State.copyPattern (s : State) : State :=
  if s.dev.patternHold then s else { s with matrix := { s.matrix with live := s.matrix.shadow } }

/-- The boundary work of the route matrix (R130): transitions end, a waiting SWAP is performed, the pattern is copied. -/
def State.matrixBoundary (s : State) : State :=
  let t : State := { s with matrix := s.matrix.endTransitions }
  (if t.matrix.swapWaiting then t.performSwap else t).copyPattern

/-- The route matrix's work for the present house frame (R130). -/
def State.matrixWork (s : State) : State :=
  if s.tb.phase = 0 then s.matrixBoundary.formSlots else s.formSlots

/-- The event arises: it is due in this house frame, every stream's output frame has been handed over, and the reset line
is released (R66, R130). -/
def State.matrixArises (s : State) : Bool :=
  !s.pins.resetLine && s.matrix.due && s.streams.toList.all fun st => !st.frameDue

/-- Some slot is in transition. -/
def Matrix.inTransition (m : Matrix) : Bool := m.slots.toList.any fun t => !decide (t.transition = .none)

/-! ### The commands -/

/-- ROUTE_MATRIX_EVENT (R130). -/
def execRouteMatrixEvent (s : State) : Host.Outcome State Fault Refusal :=
  .next (if s.matrixArises then s.matrixWork else s)

/-- SWAP_PERFORMED (R186): the event at a block boundary that performs a waiting SWAP. -/
def execSwapPerformed (s : State) : Host.Outcome State Fault Refusal :=
  .next (if s.matrixArises && decide (s.tb.phase = 0) && s.matrix.swapWaiting then s.matrixWork else s)

/-- TRANSITION_END (R137): the event at a block boundary at which slots leave their transition. -/
def execTransitionEnd (s : State) : Host.Outcome State Fault Refusal :=
  .next (if s.matrixArises && decide (s.tb.phase = 0) && s.matrix.inTransition then s.matrixWork else s)

/-- The bus frame that carries slot values: slot 32 l + p is sample position p of lane l (R144). -/
def inLanes (v : SlotValues) : BusFrame :=
  Vector.ofFn fun lane : Fin 8 => Vector.ofFn fun position : Fin 32 => v[32 * lane.val + position.val]

/-- What the bus frame of the present house frame carries: the values formed two house frames earlier, and 0 in every slot
where none were formed (R144). -/
def GalleryBus.toSend (b : GalleryBus) : BusFrame :=
  match b.formed2 with
  | some v => inLanes v
  | none => BusFrame.zero

/-- GALLERY_BUS_FRAME (R144): the bus frame of the present house frame is sent, with the reset line asserted too (R66). -/
def execGalleryBusFrame (s : State) : Host.Outcome State Fault Refusal :=
  .next (if s.bus.due then { s with bus := { s.bus with sent := s.bus.toSend, due := false } } else s)

/-- The level of one line among eight. -/
def setLine (levels : BitVec 8) (line : Fin 8) (asserted : Bool) : BitVec 8 :=
  if asserted then levels ||| (1#8 <<< line.val) else levels &&& ~~~(1#8 <<< line.val)

/-- CUT_LINE_CHANGE (R131): the route matrix holds the new level, and while the reset line is asserted it takes none. -/
def execCutLineChange (line : Fin 8) (asserted : Bool) (s : State) : Host.Outcome State Fault Refusal :=
  let cut := setLine s.pins.cut line asserted
  .next { s with pins := { s.pins with cut := cut },
                 matrix := if s.pins.resetLine then s.matrix else { s.matrix with cutHeld := cut } }

end Sys2Proof.Machine
end

