-- ==== Sys2Proof/Machine/Lock.lean ====
section
/-! DEFINITION. What happens to a stream's playout context, servo and captures when a lock is abandoned, a stream is
enabled or disabled, or a reset is taken (R25, R26, R67, R73, R76, R77, R102, R160). -/

namespace Sys2Proof.Machine

/-- The stream's part of a relock (R73): ACQUIRE, tags emptied, anchor absent, counts 0, servo 0, no slip due. The silent run
and SILENCE are kept until the first close after it (R156). -/
def Stream.relocked (st : Stream) : Stream :=
  { st with state := .acquire, tags := [], anchor := none, rejectRun := 0, quiet := 0, holdover := 0,
            slipDue := .none, servo := Servo.zero, relockOpen := true }

/-- A relock of a stream (R73): STARVED is cleared and RELOCKED latched in the same event. -/
def State.relock (s : State) (k : StreamId) : State :=
  ((s.modStream k Stream.relocked).clearAlarm k .starved).latch .relocked k.number

/-- What an accepted ENABLE does to a path's context: E and the last arrival frame absent, blocks since the last segment
0; counters and interval captures kept (R25, R149). -/
def PathContext.enabled (c : PathContext) : PathContext :=
  { c with expected := none, blocksSince := 0, lastArrival := none }

/-- The stream's part of an accepted ENABLE with its figures (R18, R25, R67, R102, R109, R149, R156). The tuning that the work
of a boundary already passed reads is kept (R19; log 14). -/
def Stream.enable (st : Stream) (f : Figures) : Stream :=
  { st with enabled := true, figures := some f, channels := st.record.shape.channels,
            inForce := st.record.tuning,
            tags := [], anchor := none, rejectRun := 0, state := .acquire, playPoint := 0, frameOrigin := 0,
            newest := 0, fillStart := 0, quiet := 0, holdover := 0, slipDue := .none, servo := Servo.zero,
            lastOut := Frame.zero, pathA := st.pathA.enabled, pathB := st.pathB.enabled, silentRun := 0,
            blockPeak := none, relockOpen := false }

/-- The stream's part of a DISABLE (R26, R76, R156, R157, R162). -/
def Stream.disable (st : Stream) : Stream :=
  { st with enabled := false, state := .idle, tags := [], anchor := none, alarms := AlarmFlags.none, quiet := 0,
            holdover := 0, slipDue := .none, pathA := { st.pathA with down := false },
            pathB := { st.pathB with down := false }, silentRun := 0, blockPeak := none, silence := false,
            relockOpen := false }

/-- The stream's part of the reset line and of a RESET request without clear-tables (R21, R27, R53, R77, R102, R109,
R122, R160, R162). The record, the channel count in force, the in-force tuning and the work due are kept. -/
def Stream.softReset (st : Stream) : Stream :=
  { st with figures := if st.enabled then st.figures else none,
            state := if st.enabled then .acquire else .idle,
            playPoint := 0, frameOrigin := 0, newest := 0, anchor := none, fillStart := 0, rejectRun := 0, quiet := 0,
            holdover := 0, slipDue := .none, tags := [], servo := Servo.zero, alarms := AlarmFlags.none,
            lastOut := Frame.zero, concealed := 0, covered := 0, pathA := PathContext.cleared,
            pathB := PathContext.cleared, tightest := 32767, blockPeak := none, silentRun := 0, silence := false,
            relockOpen := false }

/-- The stream's part of a RESET request with clear-tables (R21, R77): the default record, disabled, no figures. -/
def Stream.clearReset (st : Stream) : Stream :=
  Stream.softReset
    { st with enabled := false, record := StreamRecord.default, figures := none, channels := Shape.default.channels,
              inForce := Tuning.default }

end Sys2Proof.Machine
end

