-- ==== Sys2Proof/Machine/Servo.lean ====
section
/-! DEFINITION. The drift servo (spec/06): the servo step at a block boundary. -/

namespace Sys2Proof.Machine

/-- The lead: the signed difference of N and P, clamped to −32768 to 32767 (R91). -/
def Stream.lead (st : Stream) : Int := clamp (-32768) 32767 (timeDiff st.newest st.playPoint)

/-- The error: the lead less the effective hold depth, clamped to −32767 to 32767 (R91). -/
def Stream.leadError (st : Stream) : Int := clamp (-32767) 32767 (st.lead - st.fig.effH)

/-- The smoothed error after a step: S − floor(S/16) + e, saturated (R92). -/
def smoothed (s e : Int) : Int := clamp (-1048576) 1048575 (s - s.fdiv 16 + e)

/-- S lies outside the deadband with the servo on: G is 1 to 15 and floor(abs(S) / 16) is greater than W (R93). -/
def outsideDeadband (t : Tuning) (s : Int) : Bool :=
  !decide (t.gain = 0) && decide (t.deadband < s.natAbs / 16)

/-- The unclamped rate: floor(abs(S) × G / 16) outside the deadband, and 0 otherwise (R93). -/
def unclampedRate (t : Tuning) (s : Int) : Nat :=
  if outsideDeadband t s then s.natAbs * t.gain / 16 else 0

/-- The effective Rmax: the smaller of the written Rmax and 4096 (R19, R93). -/
def Tuning.effRmax (t : Tuning) : Nat := min t.rmax 4096

/-- The sign of S as a direction (R95). -/
def directionOf (s : Int) : Slip := if 0 < s then .drop else if s < 0 then .insert else .none

/-- The servo's values after a step in PLAYING, from its lead and error (R91 to R96). -/
def Servo.step (v : Servo) (t : Tuning) (lead error : Int) : Servo :=
  let s := smoothed v.s error
  let u := unclampedRate t s
  let r := min u t.effRmax
  { s := s, r := r, q := if 65536 ≤ v.q + r then v.q + r - 65536 else v.q + r,
    direction := directionOf s, lead := lead, error := error, unclamped := u }

/-- The step schedules a slip: Q plus R reaches 65536 (R96). -/
def Servo.schedules (before after : Servo) : Bool := decide (65536 ≤ before.q + after.r)

/-- The limit of SERVO_LIMIT holds after the step (R94). -/
def Servo.limitHolds (v : Servo) (t : Tuning) : Bool :=
  outsideDeadband t v.s && decide (t.effRmax < v.unclamped)

/-- SERVO_LIMIT brought to the state a test gives, with no hand-off where it is already there (R94). -/
def State.setServoLimit (s : State) (k : StreamId) (holds : Bool) : State :=
  if holds then s.raise k .servoLimit
  else if (s.stream k).alarms.servoLimit then s.clearAlarm k .servoLimit else s

/-- The servo's values after a stream's step in PLAYING, with the tuning in force before the copy (R98). -/
def Stream.stepped (st : Stream) : Servo := st.servo.step st.closing st.lead st.leadError

/-- The stream's part of a servo step in PLAYING: the new values, and the slip written into slip due (R97). -/
def Stream.stepPlaying (st : Stream) : Stream :=
  { st with servo := st.stepped, stepDue := false,
            slipDue := if st.servo.schedules st.stepped then st.stepped.direction else st.slipDue }

/-- The servo step of a stream (R90): computed in PLAYING, frozen in HOLDOVER (R99), held at zero with SERVO_LIMIT cleared
in ACQUIRE and FILLING (R100, R101), none in IDLE. -/
def State.servoWork (s : State) (k : StreamId) : State :=
  match (s.stream k).state with
  | .playing =>
    (s.modStream k Stream.stepPlaying).setServoLimit k ((s.stream k).stepped.limitHolds (s.stream k).closing)
  | .holdover => s.modStream k fun st => { st with stepDue := false }
  | .acquire => (s.modStream k fun st => { st with stepDue := false }).setServoLimit k false
  | .filling => (s.modStream k fun st => { st with stepDue := false }).setServoLimit k false
  | .idle => s

/-- SERVO_STEP (R90): taken for an enabled stream at a block boundary, once. -/
def execServoStep (k : StreamId) (s : State) : Host.Outcome State Fault Refusal :=
  .next (if !s.pins.resetLine && (s.stream k).stepDue && (s.stream k).enabled then s.servoWork k else s)

end Sys2Proof.Machine
end

