-- ==== Sys2Proof/Machine/Records.lean ====
section
/-! DEFINITION. The records that management requests carry (spec/12 section 12.3): how each is laid out in bytes, how a
written record is read, and which values are in range (R17, R123, R192). -/

namespace Sys2Proof.Machine

/-! ### Stream records -/

/-- The structural fields lie in the ranges of R17. -/
def Shape.inRange (sh : Shape) : Bool :=
  decide (1 ≤ sh.channels) && decide (sh.channels ≤ 16)
    && (decide (sh.segLen = 6) || decide (sh.segLen = 12) || decide (sh.segLen = 24) || decide (sh.segLen = 48))
    && decide (1 ≤ sh.pageCount) && decide (sh.basePage + sh.pageCount ≤ 2048)
    && decide (12 ≤ sh.holdDepth) && decide (sh.holdDepth ≤ 32767)

/-- The tuning fields lie in the ranges of R17. -/
def Tuning.inRange (t : Tuning) : Bool :=
  decide (1 ≤ t.starveTimeout) && decide (t.starveTimeout ≤ 255)
    && decide (1 ≤ t.holdoverLimit) && decide (t.holdoverLimit ≤ 65535)
    && decide (1 ≤ t.pathTimeout) && decide (t.pathTimeout ≤ 255)
    && decide (t.gain ≤ 15) && decide (t.deadband ≤ 255) && decide (t.rmax ≤ 65535)
    && (match t.watch with
        | none => true
        | some w => decide (w ≤ 15))
    && decide (t.silenceThreshold ≤ 65535)
    && decide (1 ≤ t.silenceWindow) && decide (t.silenceWindow ≤ 65535)

/-- A stream record lies in the ranges of R17. -/
def StreamRecord.inRange (r : StreamRecord) : Bool := r.shape.inRange && r.tuning.inRange

/-- The code of a path admission (spec/12 section 12.2). -/
def Admission.code : Admission → Byte
  | .a => 1
  | .b => 2
  | .both => 3

/-- The path admission of a code. -/
def readAdmission (n : Nat) : Option Admission :=
  match n with
  | 1 => some .a
  | 2 => some .b
  | 3 => some .both
  | _ => none

/-- The code of a fill method (spec/12 section 12.2). -/
def FillMethod.code : FillMethod → Byte
  | .zero => 0
  | .hold => 1
  | .fade => 2

/-- The fill method of a code. -/
def readFill (n : Nat) : Option FillMethod :=
  match n with
  | 0 => some .zero
  | 1 => some .hold
  | 2 => some .fade
  | _ => none

/-- The watch channel of a byte: 255 for NONE (spec/12 section 12.3). -/
def readWatch (n : Nat) : Option Nat := if n = 255 then none else some n

/-- A stream record's size (spec/12 section 12.3). -/
def streamRecordSize : Nat := 24

/-- The record that 24 bytes carry, where every field is in range (R18, R19, R192). The enabled flag is disregarded. -/
def readStreamRecord (b : List Byte) : Option StreamRecord :=
  match readAdmission (field b 9 1), readFill (field b 14 1) with
  | some adm, some fill =>
    let r : StreamRecord :=
      { shape := { channels := field b 1 1, segLen := field b 2 1, basePage := field b 3 2, pageCount := field b 5 2,
                   holdDepth := field b 7 2, admission := adm },
        tuning := { starveTimeout := field b 10 1, holdoverLimit := field b 11 2, pathTimeout := field b 13 1,
                    fill := fill, gain := field b 15 1, deadband := field b 16 1, rmax := field b 17 2,
                    watch := readWatch (field b 19 1), silenceThreshold := field b 20 2,
                    silenceWindow := field b 22 2 } }
    if r.inRange then some r else none
  | _, _ => none

/-- The 24 bytes of a stream record (R17, spec/12 section 12.3). -/
def Stream.recordBytes (st : Stream) : List Byte :=
  let sh := st.record.shape
  let t := st.record.tuning
  flagByte st.enabled ++ toBytes 1 sh.channels ++ toBytes 1 sh.segLen ++ toBytes 2 sh.basePage
    ++ toBytes 2 sh.pageCount ++ toBytes 2 sh.holdDepth ++ [sh.admission.code] ++ toBytes 1 t.starveTimeout
    ++ toBytes 2 t.holdoverLimit ++ toBytes 1 t.pathTimeout ++ [t.fill.code] ++ toBytes 1 t.gain
    ++ toBytes 1 t.deadband ++ toBytes 2 t.rmax ++ toBytes 1 (t.watch.getD 255) ++ toBytes 2 t.silenceThreshold
    ++ toBytes 2 t.silenceWindow

/-! ### Stream status -/

/-- The code of a playout state (spec/12 section 12.2). -/
def PlayState.code : PlayState → Byte
  | .idle => 0
  | .acquire => 1
  | .filling => 2
  | .playing => 3
  | .holdover => 4

/-- The code of slip due or of a direction (spec/12 section 12.2). -/
def Slip.code : Slip → Byte
  | .none => 0
  | .drop => 1
  | .insert => 2

/-- The anchor: a presence flag, the origin time and the sequence, sent as 0 when absent (spec/12 section 12.3). -/
def anchorBytes : Option Tag → List Byte
  | none => [0, 0, 0, 0, 0, 0, 0]
  | some a => 1 :: (toBytes 4 a.origin.toNat ++ toBytes 2 a.seq.toNat)

/-- The STREAM_STATUS record (R89, R108, R163; the order of the fields of these rules is log 17). -/
def Stream.statusBytes (st : Stream) (mask : AlarmFlags) : List Byte :=
  [st.state.code] ++ toBytes 4 st.playPoint.toNat ++ toBytes 4 st.frameOrigin.toNat ++ toBytes 4 st.newest.toNat
    ++ toBytes 4 st.fillStart.toNat ++ anchorBytes st.anchor ++ toBytes 2 st.rejectRun ++ toBytes 2 st.quiet
    ++ toBytes 2 st.holdover ++ [st.slipDue.code]
    ++ toBytes 2 st.fig.slots ++ toBytes 4 st.fig.capacity ++ toBytes 2 st.fig.effH
    ++ toBytes 4 (BitVec.ofInt 32 st.servo.s).toNat ++ toBytes 2 st.servo.r ++ toBytes 2 st.servo.q
    ++ [st.servo.direction.code] ++ toBytesSigned16 st.servo.lead ++ toBytesSigned16 st.servo.error
    ++ toBytes 4 st.servo.unclamped ++ toBytes 4 st.inForce.effRmax ++ flagByte st.alarms.servoLimit
    ++ [st.alarms.toByte] ++ flagByte (st.alarms.automute mask)

/-! ### Path counters and monitors -/

/-- A path's expected sequence: a presence flag and the sequence, sent as 0 when absent (spec/12 section 12.3). -/
def expectedBytes : Option Seq → List Byte
  | none => [0, 0, 0]
  | some e => 1 :: toBytes 2 e.toNat

/-- One path's part of a PATH_COUNTERS record: 35 bytes (R37, spec/12 section 12.3). -/
def PathContext.counterBytes (c : PathContext) : List Byte :=
  toBytes 4 c.counters.received.toNat ++ toBytes 4 c.counters.accepted.toNat ++ toBytes 4 c.counters.duplicate.toNat
    ++ toBytes 4 c.counters.late.toNat ++ toBytes 4 c.counters.early.toNat ++ toBytes 4 c.counters.mismatch.toNat
    ++ toBytes 4 c.counters.lost.toNat ++ toBytes 4 c.counters.outOfOrder.toNat ++ expectedBytes c.expected

/-- The PATH_COUNTERS record: path A and then path B (R37). -/
def Stream.pathCounterBytes (st : Stream) : List Byte := st.pathA.counterBytes ++ st.pathB.counterBytes

/-- One path's part of a MONITORS record (R158). -/
def PathContext.monitorBytes (c : PathContext) : List Byte :=
  toBytes 2 c.lastInterval ++ toBytes 2 c.largestInterval ++ flagByte c.frozen ++ toBytes 2 c.blocksSince
    ++ flagByte c.down

/-- The MONITORS record (R122, R158). -/
def Stream.monitorBytes (st : Stream) : List Byte :=
  st.pathA.monitorBytes ++ st.pathB.monitorBytes ++ toBytesSigned16 st.tightest ++ toBytes 2 st.silentRun
    ++ flagByte st.silence ++ toBytes 4 st.concealed.toNat ++ toBytes 4 st.covered.toNat

/-! ### Port counters and timebase -/

/-- The PORT_COUNTERS record: the eight counters and the link state, whose code is open (R14; log 13). -/
def LinkPort.counterBytes (l : LinkPort) : List Byte :=
  let c := l.counters
  toBytes 4 c.framesReceived.toNat ++ toBytes 4 c.badFcs.toNat ++ toBytes 4 c.foreign.toNat
    ++ toBytes 4 c.malformed.toNat ++ toBytes 4 c.unadmitted.toNat ++ toBytes 4 c.requestsAccepted.toNat
    ++ toBytes 4 c.repliesSent.toNat ++ toBytes 4 c.alertsSent.toNat ++ [Config.linkStateCode l.linkUp]

/-- The code of a reference state (spec/12 section 12.2). -/
def RefState.code : RefState → Byte
  | .freeRun => 0
  | .lockedRef => 1

/-- The TIMEBASE record (R64). -/
def State.timebaseBytes (s : State) : List Byte :=
  toBytes 4 s.tb.h.toNat ++ toBytes 2 s.tb.phase.val ++ [s.tb.ref.code] ++ toBytes 2 s.tb.missedRun
    ++ toBytes 2 s.tb.goodRun ++ toBytes 2 s.tb.lastMark.val ++ flagByte s.dev.rephase

/-! ### Cover entries and pattern entries -/

/-- A cover entry's size (spec/12 section 12.3). -/
def coverEntrySize : Nat := 3

/-- The cover entry that 3 bytes carry, where it is in range and its primary is not its cover (R114, R192). -/
def readCoverEntry (b : List Byte) : Option CoverEntry :=
  match readFlag (field b 0 1), readStreamId (field b 1 1), readStreamId (field b 2 1) with
  | some u, some p, some c => if p = c then none else some { inUse := u, primary := p, cover := c }
  | _, _, _ => none

/-- The 3 bytes of a cover entry. -/
def CoverEntry.toBytes (e : CoverEntry) : List Byte :=
  flagByte e.inUse ++ Machine.toBytes 1 e.primary.number ++ Machine.toBytes 1 e.cover.number

/-- A pattern entry's size (spec/12 section 12.3). -/
def patternEntrySize : Nat := 3

/-- The sample that 3 bytes carry: every value of 3 bytes is a sample (R141). -/
def readPatternEntry (b : List Byte) : Option Sample := some (BitVec.ofNat 24 (field b 0 3))

/-! ### Route records -/

/-- A route record's size (spec/12 section 12.3). -/
def routeRecordSize : Nat := 11

/-- The source kind of a byte (R192). -/
def readSource (n : Nat) : Option SourceKind :=
  match n with
  | 0 => some .stream
  | 1 => some .pattern
  | _ => none

/-- The enable source of a byte (R192). -/
def readEnableSource (n : Nat) : Option EnableSource :=
  match n with
  | 0 => some .own
  | 1 => some .cutLine
  | _ => none

/-- The flags and kinds of a route record: in use, source, automute, enable source, own enable. -/
def readRouteKinds (b : List Byte) : Option (Bool × SourceKind × Bool × EnableSource × Bool) :=
  match readFlag (field b 0 1), readSource (field b 1 1), readFlag (field b 7 1), readEnableSource (field b 8 1),
    readFlag (field b 10 1) with
  | some u, some src, some am, some es, some oe => some (u, src, am, es, oe)
  | _, _, _, _, _ => none

/-- The numbers of a route record: stream, channel, slot, gain, cut line. -/
def readRouteNumbers (b : List Byte) : Option (StreamId × Fin 16 × SlotId × Fin 32768 × Fin 8) :=
  match readStreamId (field b 2 1), readFin 16 (field b 3 1), readFin 256 (field b 4 1), readFin 32768 (field b 5 2),
    readFin 8 (field b 9 1) with
  | some st, some ch, some sl, some g, some cl => some (st, ch, sl, g, cl)
  | _, _, _, _, _ => none

/-- The route record that 11 bytes carry, where every field is in range, used or not (R125, R192). -/
def readRouteRecord (b : List Byte) : Option RouteRecord :=
  match readRouteKinds b, readRouteNumbers b with
  | some (u, src, am, es, oe), some (st, ch, sl, g, cl) =>
    some { inUse := u, source := src, stream := st, channel := ch, slot := sl, gain := g, automute := am,
           enableSource := es, cutLine := cl, ownEnable := oe }
  | _, _ => none

/-- The code of a source kind (spec/12 section 12.3). -/
def SourceKind.code : SourceKind → Byte
  | .stream => 0
  | .pattern => 1

/-- The code of an enable source (spec/12 section 12.3). -/
def EnableSource.code : EnableSource → Byte
  | .own => 0
  | .cutLine => 1

/-- The 11 bytes of a route record. -/
def RouteRecord.toBytes (r : RouteRecord) : List Byte :=
  flagByte r.inUse ++ [r.source.code] ++ Machine.toBytes 1 r.stream.number ++ Machine.toBytes 1 r.channel.val
    ++ Machine.toBytes 1 r.slot.val ++ Machine.toBytes 2 r.gain.val ++ flagByte r.automute ++ [r.enableSource.code]
    ++ Machine.toBytes 1 r.cutLine.val ++ flagByte r.ownEnable

/-- Route states (R146). -/
inductive RouteState where
  | unused
  | driving
  | shadowed
  deriving DecidableEq, Repr

/-- The code of a route state (spec/12 section 12.2). -/
def RouteState.code : RouteState → Byte
  | .unused => 0
  | .driving => 1
  | .shadowed => 2

/-- The state of a route of a bank: not in use, the driver of its slot, or behind a lower-numbered route of the same
slot (R128, R146). -/
def routeState (b : Bank) (n : RouteId) : RouteState :=
  if !b[n].inUse then .unused
  else if (b.toList.take n.val).any fun r => r.names b[n].slot then .shadowed
  else .driving

/-- The five status bytes of a route: state, open, automute, fade level, in transition (R146; after a reset, log 20). -/
def State.routeStatusBytes (s : State) (n : RouteId) : List Byte :=
  let b := s.matrix.activeBank
  let drives := decide (routeState b n = .driving)
  let slot := s.matrix.slots[b[n].slot]
  [(routeState b n).code] ++ flagByte (drives && slot.open_)
    ++ flagByte (drives && decide (b[n].source = .stream) && slot.automuted)
    ++ toBytes 1 slot.fade ++ flagByte (!decide (slot.transition = .none))

/-- The byte of a bank number. -/
def BankId.code : BankId → Byte
  | .bank0 => 0
  | .bank1 => 1

/-! ### Device settings -/

/-- The DEVICE record's size (spec/12 section 12.3). -/
def deviceRecordSize : Nat := 28

/-- The 28 bytes of the DEVICE record; the spare bytes and the disregarded bits are 0 (R187, R193). -/
def State.deviceBytes (s : State) : List Byte :=
  [unitByte s.dev.unit, s.dev.strap] ++ toBytes 6 s.portA.station.toNat ++ toBytes 6 s.portB.station.toNat
    ++ toBytes 2 s.portA.etherType.toNat ++ toBytes 2 s.portB.etherType.toNat ++ flagByte s.dev.rephase
    ++ flagByte s.dev.patternHold ++ [s.dev.muteMask.toByte] ++ toBytes 2 s.dev.eventEnable.toNat
    ++ toBytes 2 s.dev.alertEnable.toNat ++ [0, 0, 0]

/-- The settings that a WRITE of DEVICE carries (R187). -/
structure DeviceWrite where
  unit        : Byte
  stationA    : Mac
  stationB    : Mac
  etherTypeA  : EtherType
  etherTypeB  : EtherType
  rephase     : Bool
  patternHold : Bool
  muteMask    : AlarmFlags
  eventEnable : BitVec 11
  alertEnable : BitVec 11
  deriving DecidableEq, Repr

/-- A station address a port may be given: individual and not all zeros (R2). -/
def stationOk (m : Mac) : Bool := !isGroup m && !decide (m = 0)

/-- A transport type a port may be given: 0x0600 to 0xFFFF, and not 0x8100 (R2). -/
def etherTypeOk (t : EtherType) : Bool := decide (0x0600 ≤ t.toNat) && !decide (t = 0x8100)

/-- The settings that 28 bytes carry, where every one is in range (R2, R187, R192). The strap value, the spare bytes and
the bits beyond the mask and the enables are disregarded. -/
def readDeviceWrite (b : List Byte) : Option DeviceWrite :=
  match readFlag (field b 18 1), readFlag (field b 19 1) with
  | some rp, some ph =>
    let w : DeviceWrite :=
      { unit := BitVec.ofNat 8 (field b 0 1), stationA := BitVec.ofNat 48 (field b 2 6),
        stationB := BitVec.ofNat 48 (field b 8 6), etherTypeA := BitVec.ofNat 16 (field b 14 2),
        etherTypeB := BitVec.ofNat 16 (field b 16 2), rephase := rp, patternHold := ph,
        muteMask := AlarmFlags.ofByte (BitVec.ofNat 8 (field b 20 1)),
        eventEnable := BitVec.ofNat 11 (field b 21 2), alertEnable := BitVec.ofNat 11 (field b 23 2) }
    if !decide (w.unit = 0) && !decide (w.unit = 255) && stationOk w.stationA && stationOk w.stationB
        && etherTypeOk w.etherTypeA && etherTypeOk w.etherTypeB then some w
    else none
  | _, _ => none

/-! ### Runs of records -/

/-- The records that a WRITE's data carries, in ascending index, where every one is in range (R183, R192). -/
def readRecords {α : Type} (read : List Byte → Option α) (size : Nat) : Nat → List Byte → Option (List α)
  | 0, _ => some []
  | n + 1, b =>
    match read (b.take size), readRecords read size n (b.drop size) with
    | some r, some rs => some (r :: rs)
    | _, _ => none

/-- The places of the streams that an index and a count name (R20). -/
def namedStreams (index count : Nat) : List StreamId := (named index count).filterMap readStreamId

/-- The places that an index and a count name in a table of `n` records indexed from 0. -/
def namedPlaces (n index count : Nat) : List (Fin n) := (named index count).filterMap (readFin n)

/-! ### Event pairs -/

/-- The 3 bytes of an event pair (spec/12 section 12.3). -/
def EventEntry.toBytes (e : EventEntry) : List Byte :=
  Machine.toBytes 1 e.kind.priority ++ Machine.toBytes 1 e.stream ++ Machine.toBytes 1 e.count

end Sys2Proof.Machine
end

