-- ==== Sys2Proof/Machine/Resets.lean ====
section
/-! DEFINITION. The three kinds of reset (spec/00 section 6.5, spec/11 section 11.7), with the commands POWER_ON,
RESET_LINE_ASSERT and RESET_LINE_RELEASE, and the protect line's command. -/

namespace Sys2Proof.Machine

/-- The timebase after the reset line or a RESET request: FREE_RUN with the runs at 0 and no span begun; count, phase and
last mark phase kept (R66). -/
def Timebase.requalify (t : Timebase) : Timebase :=
  { t with ref := .freeRun, missedRun := 0, goodRun := 0, spanOpen := false }

/-- A slot after a reset: fade level 0 and no transition (R133, R138; the status of the last event is kept, log 20). -/
def Slot.resetSlot (t : Slot) : Slot := { t with fade := 0, transition := .none }

/-- The effects common to the reset line and every RESET request (R15, R21, R66, R77, R102, R109, R122, R133, R138, R160,
R162, R176, R189). -/
def State.softReset (s : State) : State :=
  { s.mapStreams Stream.softReset with
    tb := s.tb.requalify,
    portA := { s.portA with counters := PortCounters.zero },
    portB := { s.portB with counters := PortCounters.zero },
    matrix := { s.matrix with slots := s.matrix.slots.map Slot.resetSlot },
    ev := EventUnit.cleared }

/-- The device settings after a RESET request with clear-tables: power-on values, but for the unit address and the strap
value, which are kept (R187, R189, R191). -/
def DeviceSettings.cleared (d : DeviceSettings) : DeviceSettings :=
  { DeviceSettings.powerOn d.strap with unit := d.unit }

/-- The route matrix's tables after a RESET request with clear-tables (R127, R138, R143). -/
def Matrix.clearTables (m : Matrix) : Matrix :=
  { m with bank0 := Bank.default, bank1 := Bank.default, active := .bank0, live := Vector.replicate 48 0,
           shadow := Vector.replicate 48 0 }

/-- A RESET request with clear-tables: all that a RESET does, and the tables and the device settings at their power-on
values (R15, R21, R113, R127, R143, R189). -/
def State.clearReset (s : State) : State :=
  let t := s.softReset
  { t.mapStreams Stream.clearReset with
    portA := { t.portA with etherType := defaultEtherType },
    portB := { t.portB with etherType := defaultEtherType },
    dev := t.dev.cleared,
    cover := Vector.replicate 8 CoverEntry.default,
    matrix := t.matrix.clearTables }

/-- No work of the present house frame is due (R66; log 22). -/
def Stream.noWork (st : Stream) : Stream :=
  { st with frameDue := false, stepDue := false, monitorDue := false, peakDue := false }

/-- The values that the gallery bus port holds are discarded (R144; log 21). -/
def GalleryBus.discard (b : GalleryBus) : GalleryBus := { b with formed0 := none, formed1 := none, formed2 := none }

/-- The assertion of the reset line (R190): work due dropped (R66; log 22), a SWAP in progress cancelled unanswered (R134, R186), the transmit queues
emptied (R16), the values held for the bus discarded (R144), and the common effects. -/
def State.lineReset (s : State) : State :=
  let t := s.softReset
  { t.mapStreams Stream.noWork with
    copyDue := false,
    portA := { t.portA with queue := [] },
    portB := { t.portB with queue := [] },
    matrix := { t.matrix with swapWaiting := false, due := false },
    bus := t.bus.discard,
    inProgress := none,
    pins := { t.pins with resetLine := true } }

/-- POWER_ON (R191): the straps are read, and every block takes its power-on state. The inputs keep the levels at which
they are driven (log 11), and the words of sample memory take unknown values (R53; log 12). -/
def execPowerOn (straps : Byte) (s : State) : Host.Outcome State Fault Refusal :=
  .next (State.powerOn straps s.portA.linkUp s.portB.linkUp s.pins (s.epoch + 1) s.pending)

/-- RESET_LINE_ASSERT (R190). A line that is asserted already is not asserted again. -/
def execResetLineAssert (s : State) : Host.Outcome State Fault Refusal :=
  .next (if s.pins.resetLine then s else s.lineReset)

/-- RESET_LINE_RELEASE (R190): the route matrix takes the level of each cut line as it stands (R131); work resumes with
the next house frame (log 22). -/
def execResetLineRelease (s : State) : Host.Outcome State Fault Refusal :=
  .next (if s.pins.resetLine then
      { s with pins := { s.pins with resetLine := false }, matrix := { s.matrix with cutHeld := s.pins.cut } }
    else s)

/-- PROTECT_LINE_CHANGE (R181): the level is an input and is read when each request is taken. -/
def execProtectLineChange (asserted : Bool) (s : State) : Host.Outcome State Fault Refusal :=
  .next { s with pins := { s.pins with protect := asserted } }

end Sys2Proof.Machine
end

