-- ==== Sys2Proof/Machine/Agent.lean ====
section
/-! DEFINITION. The management agent (spec/11) and the stream table's requests (spec/02 sections 2.1 and 2.2): which
requests are served and taken, the checks of R177, what each request does and returns, and the request commands. -/

namespace Sys2Proof.Machine

/-! ### Addressing and taking (R172, R178, R179) -/

/-- The requests that a general address is served for (R178). -/
def RequestKind.servedGeneral : RequestKind → Bool
  | .write => true
  | .swap => true
  | .copy => true
  | .enable => true
  | .disable => true
  | .relock => true
  | .read => false
  | .peekEvents => false
  | .readEvents => false
  | .collect => false
  | .reset => false

/-- The part serves the request (R178). A part whose unit address is none serves general requests alone. -/
def State.serves (s : State) (r : Request) : Bool :=
  if r.general then
    match requestKind r.code with
    | none => false
    | some k => k.servedGeneral
  else decide (s.dev.unit = some r.env.unit)

/-- The destination that a request gives the alert notices (R172). -/
def Request.alertDest (r : Request) : AlertDest := { address := r.env.source, port := r.env.port, vlan := r.env.vlan }

/-- The agent takes a request: it is counted at its port (R10), and an addressed one becomes the alert destination
(R172). The destination is set before the request's own effects, so the notice of a latch of the same event goes to the
requester; R172 says 'in the event that takes it' and orders the two for RESET alone (DESIGN CHOICE: log 38). -/
def State.take (s : State) (r : Request) : State :=
  let t := s.countPort r.env.port fun c => { c with requestsAccepted := Counter.inc c.requestsAccepted }
  if r.general then t else { t with ev := { t.ev with alertDest := some r.alertDest } }

/-! ### The common checks (R177) -/

/-- The requests that the protect line forbids (R181). -/
def RequestKind.guarded : RequestKind → Bool
  | .write => true
  | .swap => true
  | .copy => true
  | .enable => true
  | .disable => true
  | .relock => true
  | .reset => true
  | .read => false
  | .peekEvents => false
  | .readEvents => false
  | .collect => false

/-- The index and the count as numbers. -/
def Request.index (r : Request) : Nat := r.env.index.toNat

/-- The count as a number. -/
def Request.count (r : Request) : Nat := r.env.count.toNat

/-- Check 4 of R177. -/
def Request.indexPasses (r : Request) (k : RequestKind) : Bool :=
  match k with
  | .swap => true
  | .copy => true
  | .reset => true
  | .peekEvents => decide (1 ≤ r.count) && decide (r.count ≤ 16)
  | .readEvents => decide (1 ≤ r.count) && decide (r.count ≤ 16)
  | _ =>
    match objectKind r.object with
    | none => false
    | some o => indexOk o r.index r.count

/-- The size of a record that a WRITE carries (spec/12 section 12.3); 0 for objects that are not written. -/
def ObjectKind.recordSize : ObjectKind → Nat
  | .stream => streamRecordSize
  | .routeStandby => routeRecordSize
  | .cover => coverEntrySize
  | .pattern => patternEntrySize
  | .device => deviceRecordSize
  | .streamStatus => 0
  | .routeActive => 0
  | .portCounters => 0
  | .pathCounters => 0
  | .monitors => 0
  | .timebase => 0

/-- The clear-tables flag of a RESET request's data (R192). -/
def Request.clearTables (r : Request) : Option Bool :=
  match r.env.data with
  | [] => none
  | b :: _ => readFlag b.toNat

/-- Check 5 of R177: the data holds what the request needs (R192). -/
def Request.dataPasses (r : Request) (k : RequestKind) : Bool :=
  match k with
  | .write =>
    match objectKind r.object with
    | none => false
    | some o => decide (r.count * o.recordSize ≤ r.env.data.length)
  | .reset => r.clearTables.isSome
  | _ => true

/-- The outcome of the checks 2 to 5 of R177, in their order: the first that fails, or the request to execute. -/
def State.judge (s : State) (r : Request) : Result ⊕ RequestKind :=
  match requestKind r.code with
  | none => .inl .badObject
  | some k =>
    if s.pins.protect && k.guarded then .inl .prot
    else if !k.applies r.object then .inl .badObject
    else if !r.indexPasses k then .inl .badIndex
    else if !r.dataPasses k then .inl .badValue
    else .inr k

/-! ### Changing named records -/

/-- Change the named streams. -/
def State.modStreams (s : State) (ks : List StreamId) (f : Stream → Stream) : State :=
  { s with streams := Vector.ofFn fun k : StreamId => if k ∈ ks then f s.streams[k] else s.streams[k] }

/-- A table after the named places take new records. -/
def writePlaces {α : Type} {n : Nat} (table : Vector α n) (items : List (Fin n × α)) : Vector α n :=
  Vector.ofFn fun i : Fin n => (items.lookup i).getD table[i]

/-! ### READ (R182) -/

/-- The records a READ returns (R182, R193). -/
def State.readData (s : State) (o : ObjectKind) (index count : Nat) : List Byte :=
  match o with
  | .stream => (namedStreams index count).flatMap fun k => (s.stream k).recordBytes
  | .streamStatus => (namedStreams index count).flatMap fun k => (s.stream k).statusBytes s.dev.muteMask
  | .routeActive =>
    s.matrix.active.code :: s.matrix.cutHeld
      :: (namedPlaces 256 index count).flatMap fun n => s.matrix.activeBank[n].toBytes ++ s.routeStatusBytes n
  | .routeStandby =>
    s.matrix.active.other.code :: (namedPlaces 256 index count).flatMap fun n => s.matrix.standbyBank[n].toBytes
  | .cover => (namedPlaces 8 index count).flatMap fun n => s.cover[n].toBytes
  | .pattern => (namedPlaces 48 index count).flatMap fun n => toBytes 3 s.matrix.shadow[n].toNat
  | .device => s.deviceBytes
  | .portCounters =>
    (named index count).flatMap fun n => if n = 0 then s.portA.counterBytes else s.portB.counterBytes
  | .pathCounters => (namedStreams index count).flatMap fun k => (s.stream k).pathCounterBytes
  | .monitors => (namedStreams index count).flatMap fun k => (s.stream k).monitorBytes
  | .timebase => s.timebaseBytes

/-- READ: it changes nothing but what its taking and its reply change (R182). -/
def State.doRead (s : State) (r : Request) (o : ObjectKind) : State :=
  s.answer r .ok (s.readData o r.index r.count)

/-! ### WRITE (R183) -/

/-- A WRITE of a stream record changes a structural field of an enabled record (R18). -/
def State.shapeConflict (s : State) (w : StreamId × StreamRecord) : Bool :=
  (s.stream w.1).enabled && !decide (w.2.shape = (s.stream w.1).record.shape)

/-- The outcome of a WRITE of STREAM whose fields are all in range (R20). -/
def State.streamWriteResult (s : State) (ws : List (StreamId × StreamRecord)) : Result :=
  if ws.any s.shapeConflict then .state
  else if ws.any fun w => decide (4096 < w.2.tuning.rmax) then .clamped
  else .ok

/-- The named stream records stored; enabled flags and figures as they were (R17, R20). -/
def State.storeStreams (s : State) (ws : List (StreamId × StreamRecord)) : State :=
  { s with streams := Vector.ofFn fun k : StreamId =>
      match ws.lookup k with
      | none => s.streams[k]
      | some w => { s.streams[k] with record := w } }

/-- WRITE of STREAM (R18 to R20). -/
def State.writeStreams (s : State) (r : Request) : State :=
  match readRecords readStreamRecord streamRecordSize r.count r.env.data with
  | none => s.answer r .badValue []
  | some rs =>
    let ws := (namedStreams r.index r.count).zip rs
    if (s.streamWriteResult ws).executed then (s.storeStreams ws).answer r (s.streamWriteResult ws) []
    else s.answer r (s.streamWriteResult ws) []

/-- WRITE of ROUTE_STANDBY (R125). -/
def State.writeRoutes (s : State) (r : Request) : State :=
  match readRecords readRouteRecord routeRecordSize r.count r.env.data with
  | none => s.answer r .badValue []
  | some rs =>
    State.answer
      { s with matrix := s.matrix.setStandby
                (writePlaces s.matrix.standbyBank ((namedPlaces 256 r.index r.count).zip rs)) }
      r .ok []

/-- WRITE of COVER (R114). -/
def State.writeCovers (s : State) (r : Request) : State :=
  match readRecords readCoverEntry coverEntrySize r.count r.env.data with
  | none => s.answer r .badValue []
  | some es =>
    State.answer { s with cover := writePlaces s.cover ((namedPlaces 8 r.index r.count).zip es) } r .ok []

/-- WRITE of PATTERN: it writes the shadow table (R141). -/
def State.writePatterns (s : State) (r : Request) : State :=
  match readRecords readPatternEntry patternEntrySize r.count r.env.data with
  | none => s.answer r .badValue []
  | some vs =>
    State.answer
      { s with matrix := { s.matrix with
                shadow := writePlaces s.matrix.shadow ((namedPlaces 48 r.index r.count).zip vs) } }
      r .ok []

/-- The settings of a WRITE of DEVICE in place (R187). -/
def State.applyDevice (s : State) (w : DeviceWrite) : State :=
  { s with
    portA := { s.portA with station := w.stationA, etherType := w.etherTypeA },
    portB := { s.portB with station := w.stationB, etherType := w.etherTypeB },
    dev := { s.dev with unit := some w.unit, rephase := w.rephase, patternHold := w.patternHold,
                        muteMask := w.muteMask, eventEnable := w.eventEnable, alertEnable := w.alertEnable } }

/-- WRITE of DEVICE: the reply is formed with the settings as they stood, and then the new ones hold (R2, R187,
R188). -/
def State.writeDeviceSettings (s : State) (r : Request) : State :=
  match readDeviceWrite r.env.data with
  | none => s.answer r .badValue []
  | some w => (s.answer r .ok []).applyDevice w

/-- WRITE of an object (R183). -/
def State.doWrite (s : State) (r : Request) (o : ObjectKind) : State :=
  match o with
  | .stream => s.writeStreams r
  | .routeStandby => s.writeRoutes r
  | .cover => s.writeCovers r
  | .pattern => s.writePatterns r
  | .device => s.writeDeviceSettings r
  | .streamStatus => s.answer r .badObject []
  | .routeActive => s.answer r .badObject []
  | .portCounters => s.answer r .badObject []
  | .pathCounters => s.answer r .badObject []
  | .monitors => s.answer r .badObject []
  | .timebase => s.answer r .badObject []

/-! ### ENABLE, DISABLE, RELOCK (R22 to R26, R75, R184) -/

/-- The largest power of two that is at most `n` and at most 4096; 0 if there is none (section 2.2). -/
def slotsWithin (n : Nat) : Nat :=
  ([4096, 2048, 1024, 512, 256, 128, 64, 32, 16, 8, 4, 2, 1].find? fun p => decide (p ≤ n)).getD 0

/-- Slots (section 2.2, R22). -/
def Shape.slots (sh : Shape) : Nat := slotsWithin (sh.pageCount * 768 / (sh.channels * sh.segLen))

/-- The figures an ENABLE fixes (section 2.2, R24). -/
def Shape.figures (sh : Shape) : Figures :=
  { slots := sh.slots, capacity := sh.slots * sh.segLen,
    effH := min sh.holdDepth (sh.slots * sh.segLen - 2 * sh.segLen) }

/-- The requested H is greater than capacity − 2 × segment length (R24). -/
def Shape.clampsH (sh : Shape) : Bool := decide (sh.slots * sh.segLen - 2 * sh.segLen < sh.holdDepth)

/-- Two page ranges have a page in common (R23). -/
def Shape.overlaps (a b : Shape) : Bool :=
  decide (a.basePage < b.basePage + b.pageCount) && decide (b.basePage < a.basePage + a.pageCount)

/-- The stream's pages overlap those of an enabled stream or of one of the streams before it in the request (R23,
R25). -/
def State.overlapsEnabled (s : State) (before : List StreamId) (k : StreamId) : Bool :=
  (List.finRange 64).any fun j =>
    ((s.stream j).enabled || decide (j ∈ before)) && (s.stream j).record.shape.overlaps (s.stream k).record.shape

/-- One of the named streams is refused with OVERLAP, each judged with those named before it as enabled (R25). -/
def State.anyOverlap (s : State) (before : List StreamId) : List StreamId → Bool
  | [] => false
  | k :: ks => s.overlapsEnabled before k || s.anyOverlap (before ++ [k]) ks

/-- The outcome of an ENABLE (R22 to R25). -/
def State.enableResult (s : State) (ks : List StreamId) : Result :=
  if ks.any fun k => (s.stream k).enabled then .state
  else if ks.any fun k => decide ((s.stream k).record.shape.slots < 4) then .badValue
  else if s.anyOverlap [] ks then .overlap
  else if ks.any fun k => (s.stream k).record.shape.clampsH then .clamped
  else .ok

/-- ENABLE (R25). -/
def State.doEnable (s : State) (r : Request) : State :=
  let ks := namedStreams r.index r.count
  if (s.enableResult ks).executed then
    (s.modStreams ks fun st => st.enable st.record.shape.figures).answer r (s.enableResult ks) []
  else s.answer r (s.enableResult ks) []

/-- DISABLE: the named streams that are enabled (R26). -/
def State.doDisable (s : State) (r : Request) : State :=
  (s.modStreams (namedStreams r.index r.count) fun st => if st.enabled then st.disable else st).answer r .ok []

/-- The named streams that are enabled relock, in ascending index (R75). -/
def State.relockAll (s : State) (ks : List StreamId) : State :=
  ks.foldl (fun t k => if (t.stream k).enabled then t.relock k else t) s

/-- RELOCK (R75). The notice that a latch of RELOCKED may hand to a port goes before the reply (log 15). -/
def State.doRelock (s : State) (r : Request) : State :=
  (s.relockAll (namedStreams r.index r.count)).answer r .ok []

/-! ### SWAP, COPY, events, COLLECT, RESET -/

/-- SWAP: it becomes the request in progress and waits for the next boundary, unanswered (R186). All of the request is
kept: the fields its reply echoes too (R193; log 24). -/
def State.doSwap (s : State) (r : Request) : State :=
  { s with inProgress := some r, matrix := { s.matrix with swapWaiting := true } }

/-- COPY (R126). -/
def State.doCopy (s : State) (r : Request) : State :=
  State.answer { s with matrix := s.matrix.setStandby s.matrix.activeBank } r .ok []

/-- The data of a PEEK_EVENTS or READ_EVENTS reply, with the pairs returned (R169, R170, spec/12 section 12.3). -/
def State.eventData (s : State) (pairs : List EventEntry) : List Byte :=
  toBytes 2 s.ev.events.length ++ flagByte s.ev.alertPending ++ flagByte s.ev.refLost
    ++ pairs.flatMap EventEntry.toBytes

/-- PEEK_EVENTS (R169). -/
def State.doPeek (s : State) (r : Request) : State :=
  s.answer r .ok (s.eventData (s.ev.events.take r.count))

/-- READ_EVENTS (R170). -/
def State.doReadEvents (s : State) (r : Request) : State :=
  let t : State := { s with ev := { s.ev with events := s.ev.events.drop r.count, alertPending := false } }
  t.answer r .ok (t.eventData (s.ev.events.take r.count))

/-- A path's part of a COLLECT of PATH_COUNTERS (R37). -/
def PathContext.zeroCounters (c : PathContext) : PathContext := { c with counters := PathCounters.zero }

/-- A path's part of a COLLECT of MONITORS (R159). -/
def PathContext.zeroIntervals (c : PathContext) : PathContext :=
  { c with lastInterval := 0, largestInterval := 0, frozen := false }

/-- A stream's part of a COLLECT of PATH_COUNTERS (R37). -/
def Stream.collectPaths (st : Stream) : Stream :=
  { st with pathA := st.pathA.zeroCounters, pathB := st.pathB.zeroCounters }

/-- A stream's part of a COLLECT of MONITORS (R122, R159). -/
def Stream.collectMonitors (st : Stream) : Stream :=
  { st with pathA := st.pathA.zeroIntervals, pathB := st.pathB.zeroIntervals, tightest := 32767, concealed := 0,
            covered := 0 }

/-- A port's part of a COLLECT of PORT_COUNTERS (R14). -/
def LinkPort.zeroCounters (l : LinkPort) : LinkPort := { l with counters := PortCounters.zero }

/-- What a COLLECT zeroes (R14, R37, R159). -/
def State.zeroed (s : State) (o : ObjectKind) (index count : Nat) : State :=
  match o with
  | .portCounters =>
    { s with portA := if 0 ∈ named index count then s.portA.zeroCounters else s.portA,
             portB := if 1 ∈ named index count then s.portB.zeroCounters else s.portB }
  | .pathCounters => s.modStreams (namedStreams index count) Stream.collectPaths
  | .monitors => s.modStreams (namedStreams index count) Stream.collectMonitors
  | .stream => s
  | .streamStatus => s
  | .routeActive => s
  | .routeStandby => s
  | .cover => s
  | .pattern => s
  | .device => s
  | .timebase => s

/-- COLLECT: the return and the zeroing are one event (R185). The request's own acceptance is counted before them
(log 16). -/
def State.doCollect (s : State) (r : Request) (o : ObjectKind) : State :=
  (s.zeroed o r.index r.count).answer r .ok (s.readData o r.index r.count)

/-- RESET: the reply is handed over, and then the reset performed (R189). -/
def State.doReset (s : State) (r : Request) (clear : Bool) : State :=
  if clear then (s.answer r .ok []).clearReset else (s.answer r .ok []).softReset

/-! ### The agent (R177) -/

/-- A request that has passed the checks 1 to 5 is executed, with its own checks (R177). -/
def State.execute (s : State) (r : Request) (k : RequestKind) : State :=
  match k with
  | .enable => s.doEnable r
  | .disable => s.doDisable r
  | .relock => s.doRelock r
  | .swap => s.doSwap r
  | .copy => s.doCopy r
  | .peekEvents => s.doPeek r
  | .readEvents => s.doReadEvents r
  | .reset => s.doReset r (r.clearTables.getD false)
  | .read =>
    match objectKind r.object with
    | some o => s.doRead r o
    | none => s.answer r .badObject []
  | .write =>
    match objectKind r.object with
    | some o => s.doWrite r o
    | none => s.answer r .badObject []
  | .collect =>
    match objectKind r.object with
    | some o => s.doCollect r o
    | none => s.answer r .badObject []

/-- A request that is taken with none in progress is decided: refused by the first check that fails, or executed
(R177). -/
def State.decideRequest (s : State) (r : Request) : State :=
  match s.judge r with
  | .inl refusal => s.answer r refusal []
  | .inr k => s.execute r k

/-- A request that the agent serves while a SWAP is in progress: an addressed one is taken and answered BUSY, and a
general one is dropped (R179, R180). -/
def State.refuseBusy (s : State) (r : Request) : State :=
  if r.general then s else (s.take r).answer r .busy []

/-- A request handed to the agent (R177 to R180). While the reset line is asserted none is (R190). -/
def State.handle (s : State) (r : Request) : State :=
  if !s.pins.resetLine && s.serves r then
    if s.inProgress.isSome then s.refuseBusy r else (s.take r).decideRequest r
  else s

/-! ### The request commands -/

/-- READ_STREAM (R17, R182). -/
def execReadStream (m : Envelope) (s : State) : Host.Outcome State Fault Refusal := .next (s.handle ⟨1, 1, m⟩)

/-- READ_STREAM_STATUS (R89, R182). -/
def execReadStreamStatus (m : Envelope) (s : State) : Host.Outcome State Fault Refusal := .next (s.handle ⟨1, 2, m⟩)

/-- READ_ROUTE_ACTIVE (R146, R182). -/
def execReadRouteActive (m : Envelope) (s : State) : Host.Outcome State Fault Refusal := .next (s.handle ⟨1, 3, m⟩)

/-- READ_ROUTE_STANDBY (R124, R182). -/
def execReadRouteStandby (m : Envelope) (s : State) : Host.Outcome State Fault Refusal := .next (s.handle ⟨1, 4, m⟩)

/-- READ_COVER (R113, R182). -/
def execReadCover (m : Envelope) (s : State) : Host.Outcome State Fault Refusal := .next (s.handle ⟨1, 5, m⟩)

/-- READ_PATTERN (R141, R182). -/
def execReadPattern (m : Envelope) (s : State) : Host.Outcome State Fault Refusal := .next (s.handle ⟨1, 6, m⟩)

/-- READ_DEVICE (R182, R187). -/
def execReadDevice (m : Envelope) (s : State) : Host.Outcome State Fault Refusal := .next (s.handle ⟨1, 7, m⟩)

/-- READ_PORT_COUNTERS (R14, R182). -/
def execReadPortCounters (m : Envelope) (s : State) : Host.Outcome State Fault Refusal := .next (s.handle ⟨1, 8, m⟩)

/-- READ_PATH_COUNTERS (R37, R182). -/
def execReadPathCounters (m : Envelope) (s : State) : Host.Outcome State Fault Refusal := .next (s.handle ⟨1, 9, m⟩)

/-- READ_MONITORS (R158, R182). -/
def execReadMonitors (m : Envelope) (s : State) : Host.Outcome State Fault Refusal := .next (s.handle ⟨1, 10, m⟩)

/-- READ_TIMEBASE (R64, R182). -/
def execReadTimebase (m : Envelope) (s : State) : Host.Outcome State Fault Refusal := .next (s.handle ⟨1, 11, m⟩)

/-- WRITE_STREAM (R20, R183). -/
def execWriteStream (m : Envelope) (s : State) : Host.Outcome State Fault Refusal := .next (s.handle ⟨2, 1, m⟩)

/-- WRITE_ROUTE_STANDBY (R125, R183). -/
def execWriteRouteStandby (m : Envelope) (s : State) : Host.Outcome State Fault Refusal := .next (s.handle ⟨2, 4, m⟩)

/-- WRITE_COVER (R114, R183). -/
def execWriteCover (m : Envelope) (s : State) : Host.Outcome State Fault Refusal := .next (s.handle ⟨2, 5, m⟩)

/-- WRITE_PATTERN (R141, R183). -/
def execWritePattern (m : Envelope) (s : State) : Host.Outcome State Fault Refusal := .next (s.handle ⟨2, 6, m⟩)

/-- WRITE_DEVICE (R183, R187). -/
def execWriteDevice (m : Envelope) (s : State) : Host.Outcome State Fault Refusal := .next (s.handle ⟨2, 7, m⟩)

/-- ENABLE (R25, R184). -/
def execEnable (m : Envelope) (s : State) : Host.Outcome State Fault Refusal := .next (s.handle ⟨3, 1, m⟩)

/-- DISABLE (R26, R184). -/
def execDisable (m : Envelope) (s : State) : Host.Outcome State Fault Refusal := .next (s.handle ⟨4, 1, m⟩)

/-- RELOCK (R75, R184). -/
def execRelock (m : Envelope) (s : State) : Host.Outcome State Fault Refusal := .next (s.handle ⟨5, 1, m⟩)

/-- SWAP (R186). -/
def execSwap (object : Byte) (m : Envelope) (s : State) : Host.Outcome State Fault Refusal :=
  .next (s.handle ⟨6, object, m⟩)

/-- COPY (R126, R185). -/
def execCopy (object : Byte) (m : Envelope) (s : State) : Host.Outcome State Fault Refusal :=
  .next (s.handle ⟨7, object, m⟩)

/-- PEEK_EVENTS (R169, R185). -/
def execPeekEvents (object : Byte) (m : Envelope) (s : State) : Host.Outcome State Fault Refusal :=
  .next (s.handle ⟨8, object, m⟩)

/-- READ_EVENTS (R170, R185). -/
def execReadEvents (object : Byte) (m : Envelope) (s : State) : Host.Outcome State Fault Refusal :=
  .next (s.handle ⟨9, object, m⟩)

/-- COLLECT_PORT_COUNTERS (R14, R185). -/
def execCollectPortCounters (m : Envelope) (s : State) : Host.Outcome State Fault Refusal := .next (s.handle ⟨10, 8, m⟩)

/-- COLLECT_PATH_COUNTERS (R37, R185). -/
def execCollectPathCounters (m : Envelope) (s : State) : Host.Outcome State Fault Refusal := .next (s.handle ⟨10, 9, m⟩)

/-- COLLECT_MONITORS (R159, R185). -/
def execCollectMonitors (m : Envelope) (s : State) : Host.Outcome State Fault Refusal := .next (s.handle ⟨10, 10, m⟩)

/-- RESET (R189): a RESET request whose data does not begin with the clear-tables flag set; one that does is the row
RESET_CLEAR_TABLES (log 28). -/
def execReset (object : Byte) (m : Envelope) (s : State) : Host.Outcome State Fault Refusal :=
  .next (if m.data.head? = some 1 then s else s.handle ⟨11, object, m⟩)

/-- RESET_CLEAR_TABLES (R189): a RESET request whose data begins with the clear-tables flag set (log 28). -/
def execResetClearTables (object : Byte) (m : Envelope) (s : State) : Host.Outcome State Fault Refusal :=
  .next (if m.data.head? = some 1 then s.handle ⟨11, object, m⟩ else s)

/-- UNKNOWN_REQUEST (R177): a request code that is none of the eleven. -/
def execUnknownRequest (code object : Byte) (m : Envelope) (s : State) : Host.Outcome State Fault Refusal :=
  .next (if (requestKind code).isNone then s.handle ⟨code, object, m⟩ else s)

/-- A known request code with an object the request does not apply to (section 11.4). -/
def misapplied (code object : Byte) : Bool :=
  match requestKind code with
  | none => false
  | some k => !k.applies object

/-- REQUEST_NOT_APPLYING_TO_OBJECT (R177). -/
def execRequestNotApplyingToObject (code object : Byte) (m : Envelope) (s : State) :
    Host.Outcome State Fault Refusal :=
  .next (if misapplied code object then s.handle ⟨code, object, m⟩ else s)

end Sys2Proof.Machine
end

