-- ==== Sys2Proof/Machine/Monitor.lean ====
section
/-! DEFINITION. The monitor unit (spec/09): arrival intervals, path timeout, tightest margin and the silence detector, and
the commands MONITOR_BOUNDARY_WORK, PATH_TIMEOUT, INTERVAL_SATURATION and (by the monitor's work) SILENCE_WINDOW. -/

namespace Sys2Proof.Machine

/-! ### Arrivals -/

/-- The interval between two arrivals in house frames, clamped to 65535 (R147). -/
def arrivalInterval (h last : HouseCount) : Nat := min (h - last).toNat 65535

/-- The capture of an arrival in its path's record (R147). -/
def PathContext.capture (c : PathContext) (h : HouseCount) : PathContext :=
  match c.lastArrival with
  | none => { c with lastArrival := some h }
  | some last =>
    if c.frozen then { c with lastArrival := some h }
    else
      let i := arrivalInterval h last
      { c with lastArrival := some h, lastInterval := i, largestInterval := max c.largestInterval i,
               frozen := decide (i = 65535) }

/-- A segment on a path that passes the shape check clears the path's condition, if it is active (R151). -/
def State.clearPathDown (s : State) (k : StreamId) (p : Port) : State :=
  if ((s.stream k).path p).down then
    (s.modStream k fun st => st.modPath p fun c => { c with down := false }).clearAlarm k (pathAlarm p)
  else s

/-- The margin of an accepted segment lowers the tightest margin if it is smaller (R152). -/
def Stream.captureMargin (st : Stream) (margin : Int) : Stream :=
  { st with tightest := min st.tightest (clamp (-32768) 32767 margin) }

/-! ### Boundary work on a path -/

/-- Blocks since the last segment after the advance at a boundary, saturating at 255 (R150). -/
def PathContext.advanced (c : PathContext) : Nat := min (c.blocksSince + 1) 255

/-- The boundary's advance raises the path's condition: the path is admitted, the count reaches the path timeout in force
before the copy, and the condition is inactive (R150, R157). -/
def Stream.pathTimesOut (st : Stream) (p : Port) : Bool :=
  st.record.shape.admission.includes p && decide (st.closing.pathTimeout ≤ (st.path p).advanced)
    && !(st.path p).down

/-- The boundary's advance of one path (R150). -/
def State.advancePath (s : State) (k : StreamId) (p : Port) : State :=
  if (s.stream k).record.shape.admission.includes p then
    if (s.stream k).pathTimesOut p then
      (s.modStream k fun st => st.modPath p fun c => { c with blocksSince := c.advanced, down := true }).raise k
        (pathAlarm p)
    else s.modStream k fun st => st.modPath p fun c => { c with blocksSince := c.advanced }
  else s

/-- The gap in progress has reached saturation (R148). -/
def PathContext.saturates (c : PathContext) (h : HouseCount) : Bool :=
  match c.lastArrival with
  | none => false
  | some last => !c.frozen && decide (65535 ≤ (h - last).toNat)

/-- The boundary test of one path's gap (R148). -/
def PathContext.testGap (c : PathContext) (h : HouseCount) : PathContext :=
  if c.saturates h then { c with lastInterval := 65535, largestInterval := 65535, frozen := true } else c

/-! ### The silence detector -/

/-- The magnitude of a sample reduced to 16 bits: floor(abs(v) / 128) (R153). -/
def peakOf (v : Sample) : Nat := v.toInt.natAbs / 128

/-- The stream plays: PLAYING or HOLDOVER. -/
def PlayState.plays : PlayState → Bool
  | .playing => true
  | .holdover => true
  | .idle => false
  | .acquire => false
  | .filling => false

/-- The watch channel's sample of an output frame formed in PLAYING or HOLDOVER enters the block peak (R153). -/
def Stream.enterPeak (st : Stream) (formedIn : PlayState) (out : Frame) : Stream :=
  match st.inForce.watch with
  | none => st
  | some w =>
    if formedIn.plays then
      let v : Sample := if w < st.record.shape.channels then (out[w]?).getD 0 else 0
      { st with blockPeak := some (max (st.blockPeak.getD 0) (peakOf v)) }
    else st

/-- A close tests the block: it reads PLAYING or HOLDOVER, the watch channel of the closing block is not NONE, and it is not
the first close after a relock, which sets the silent run to 0 and clears SILENCE (R155, R156). A stream of small effective H
may be back in PLAYING at that close, of which R156 says that it reads ACQUIRE or FILLING (DEDUCED: log 39 follows R156). -/
def Stream.closeTests (st : Stream) : Bool := st.state.plays && st.closing.watch.isSome && !st.relockOpen

/-- The silent run after a block below the threshold, saturating at 65535 (R155). -/
def Stream.runAdvanced (st : Stream) : Nat := min (st.silentRun + 1) 65535

/-- The close that the stream's state calls for raises SILENCE (R155). -/
def Stream.closeRaises (st : Stream) : Bool :=
  st.closeTests && !st.silence
    && match st.blockPeak with
       | none => false
       | some v => decide (v < st.closing.silenceThreshold) && decide (st.closing.silenceWindow ≤ st.runAdvanced)

/-- SILENCE is cleared, if active, and the silent run is 0 (R155, R156). -/
def State.endSilence (s : State) (k : StreamId) : State :=
  if (s.stream k).silence then
    (s.modStream k fun st => { st with silentRun := 0, silence := false }).clearAlarm k .silence
  else s.modStream k fun st => { st with silentRun := 0 }

/-- The test of a closed peak (R155, R156). -/
def State.testPeak (s : State) (k : StreamId) (st : Stream) : State :=
  if st.closeTests then
    match st.blockPeak with
    | none => s
    | some v =>
      if v < st.closing.silenceThreshold then
        if st.closeRaises then
          (s.modStream k fun t => { t with silentRun := st.runAdvanced, silence := true }).raise k .silence
        else s.modStream k fun t => { t with silentRun := st.runAdvanced }
      else s.endSilence k
  else s.endSilence k

/-- The close of the block peak, once for each boundary (R154): the peak becomes empty, and the closed value is
tested. -/
def State.closePeak (s : State) (k : StreamId) : State :=
  if (s.stream k).peakDue then
    (s.modStream k fun st => { st with peakDue := false, blockPeak := none, relockOpen := false }).testPeak k (s.stream k)
  else s

/-! ### The commands -/

/-- The monitor unit's work for a stream at a boundary (R148, R150, R154). -/
def State.monitorWork (s : State) (k : StreamId) : State :=
  ((((s.advancePath k .a).advancePath k .b).modStream k fun st =>
    { st with pathA := st.pathA.testGap s.tb.h, pathB := st.pathB.testGap s.tb.h, monitorDue := false }).closePeak k)

/-- The monitor unit's work for a stream arises: it is due at this boundary and the stream is enabled (R148, R150). -/
def State.monitorArises (s : State) (k : StreamId) : Bool :=
  !s.pins.resetLine && (s.stream k).monitorDue && (s.stream k).enabled

/-- MONITOR_BOUNDARY_WORK (R150). -/
def execMonitorBoundaryWork (k : StreamId) (s : State) : Host.Outcome State Fault Refusal :=
  .next (if s.monitorArises k then s.monitorWork k else s)

/-- PATH_TIMEOUT (R150): the monitor unit's work that raises a path's condition. -/
def execPathTimeout (k : StreamId) (p : Port) (s : State) : Host.Outcome State Fault Refusal :=
  .next (if s.monitorArises k && (s.stream k).pathTimesOut p then s.monitorWork k else s)

/-- INTERVAL_SATURATION (R148): the monitor unit's work that freezes a path's interval record. -/
def execIntervalSaturation (k : StreamId) (p : Port) (s : State) : Host.Outcome State Fault Refusal :=
  .next (if s.monitorArises k && ((s.stream k).path p).saturates s.tb.h then s.monitorWork k else s)

end Sys2Proof.Machine
end

