-- ==== Sys2Proof/Machine/Classifier.lean ====
section
/-! DEFINITION. The segment classifier (spec/02 sections 2.3 to 2.6, spec/03 section 3.3), with the commands AUDIO_SEGMENT
and REJECT_RUN_RELOCK. -/

namespace Sys2Proof.Machine

/-- What the classifier finds a segment to be (section 2.4). `outOfState` stands for a stream in IDLE, which is handed no
segment. -/
inductive Verdict where
  | outOfState
  | mismatchShape
  | first
  | mismatchTimeline
  | late
  | early
  | duplicate
  | accepted
  deriving DecidableEq, Repr

/-- The origin time just past a segment's last frame. -/
def segmentEnd (len : Nat) (t : Origin) : Origin := t + BitVec.ofNat 32 len

/-- The slot position of a sequence (R34, R45). -/
def Stream.slotOf (st : Stream) (q : Seq) : Nat := q.toNat % st.fig.slots

/-- The segment lies on the stream's timeline: origin and sequence differences from the anchor agree (R32). A stream
without an anchor has no timeline to fail. -/
def Stream.onTimeline (st : Stream) (q : Seq) (t : Origin) : Bool :=
  match st.anchor with
  | none => true
  | some a => decide (timeDiff t a.origin = seqDiff q a.seq * st.record.shape.segLen)

/-- How far the segment reaches past the playout point: r of R33. -/
def Stream.reach (st : Stream) (t : Origin) : Int :=
  timeDiff (segmentEnd st.record.shape.segLen t) st.playPoint

/-- The classification of a segment against a stream in FILLING, PLAYING or HOLDOVER, after the shape check
(R32 to R35). -/
def Stream.judge (st : Stream) (q : Seq) (t : Origin) : Verdict :=
  if !st.onTimeline q t then .mismatchTimeline
  else if st.reach t ≤ 0 then .late
  else if (st.fig.capacity : Int) < st.reach t then .early
  else if lookupKey st.tags (st.slotOf q) = some ⟨q, t⟩ then .duplicate
  else .accepted

/-- The classification of a segment (section 2.4). -/
def Stream.verdict (st : Stream) (g : Segment) : Verdict :=
  match st.state with
  | .idle => .outOfState
  | .acquire =>
    if g.channels = st.record.shape.channels ∧ g.frames = st.record.shape.segLen then .first else .mismatchShape
  | .filling =>
    if g.channels = st.record.shape.channels ∧ g.frames = st.record.shape.segLen then st.judge g.seq g.origin
    else .mismatchShape
  | .playing =>
    if g.channels = st.record.shape.channels ∧ g.frames = st.record.shape.segLen then st.judge g.seq g.origin
    else .mismatchShape
  | .holdover =>
    if g.channels = st.record.shape.channels ∧ g.frames = st.record.shape.segLen then st.judge g.seq g.origin
    else .mismatchShape

/-- The segment is rejected: MISMATCH, LATE or EARLY (R36). -/
def Verdict.rejects : Verdict → Bool
  | .mismatchShape => true
  | .mismatchTimeline => true
  | .late => true
  | .early => true
  | .outOfState => false
  | .first => false
  | .duplicate => false
  | .accepted => false

/-! ### Effects -/

/-- Sequence tracking of a path (R30). -/
def PathContext.track (c : PathContext) (q : Seq) : PathContext :=
  match c.expected with
  | none => { c with expected := some (q + 1) }
  | some e =>
    let d := seqDiff q e
    if 0 < d then
      { c with expected := some (q + 1), counters := { c.counters with lost := Counter.add c.counters.lost d.toNat } }
    else if d = 0 then { c with expected := some (q + 1) }
    else { c with counters := { c.counters with outOfOrder := Counter.inc c.counters.outOfOrder } }

/-- The counters of a path after a segment's classification: received, and the one its verdict names (R37). -/
def PathCounters.tally (c : PathCounters) : Verdict → PathCounters
  | .outOfState => c
  | .mismatchShape => { c with received := Counter.inc c.received, mismatch := Counter.inc c.mismatch }
  | .mismatchTimeline => { c with received := Counter.inc c.received, mismatch := Counter.inc c.mismatch }
  | .first => { c with received := Counter.inc c.received, accepted := Counter.inc c.accepted }
  | .accepted => { c with received := Counter.inc c.received, accepted := Counter.inc c.accepted }
  | .late => { c with received := Counter.inc c.received, late := Counter.inc c.late }
  | .early => { c with received := Counter.inc c.received, early := Counter.inc c.early }
  | .duplicate => { c with received := Counter.inc c.received, duplicate := Counter.inc c.duplicate }

/-- The effects on its path of a segment that passes the shape check: blocks since the last segment 0 (R29), the interval
capture (R147) and sequence tracking (R30). -/
def PathContext.arrive (c : PathContext) (h : HouseCount) (q : Seq) : PathContext :=
  ({ c with blocksSince := 0 }.capture h).track q

/-- The segment's samples and its tag are stored (R45). -/
def State.store (s : State) (k : StreamId) (g : Segment) : State :=
  let st := s.stream k
  let i := st.slotOf g.seq
  { s.modStream k fun t => { t with tags := insertKey t.tags i ⟨g.seq, g.origin⟩ } with
    mem := writeWords s.mem (wordAddress st.record.shape i 0) g.samples }

/-- The stream's part of the acceptance of the first segment of a lock (R31, R68). The margin is the effective H. -/
def Stream.startLock (st : Stream) (g : Segment) : Stream :=
  Stream.captureMargin
    { st with anchor := some ⟨g.seq, g.origin⟩, newest := segmentEnd st.record.shape.segLen g.origin,
              playPoint := g.origin - BitVec.ofNat 32 st.fig.effH, fillStart := g.origin, rejectRun := 0,
              state := .filling, accepted := true, quiet := 0, holdover := 0, slipDue := .none }
    st.fig.effH

/-- N after an acceptance: the end of the segment if that is newer, and otherwise kept (R35). -/
def Stream.newestAfter (st : Stream) (t : Origin) : Origin :=
  if 0 < timeDiff (segmentEnd st.record.shape.segLen t) st.newest then segmentEnd st.record.shape.segLen t
  else st.newest

/-- The stream's part of a later acceptance (R35, R71, R84): in HOLDOVER the stream returns to PLAYING. -/
def Stream.accept (st : Stream) (g : Segment) : Stream :=
  Stream.captureMargin
    { st with anchor := some ⟨g.seq, g.origin⟩, newest := st.newestAfter g.origin, rejectRun := 0, accepted := true,
              quiet := 0,
              state := if st.state = .holdover then .playing else st.state }
    (timeDiff g.origin st.playPoint)

/-- A rejected segment advances the reject run, and at 16 the stream relocks in the same event (R36). -/
def State.reject (s : State) (k : StreamId) : State :=
  if 16 ≤ (s.stream k).rejectRun + 1 then s.relock k
  else s.modStream k fun st => { st with rejectRun := st.rejectRun + 1 }

/-- The effects of a verdict beyond its path (R29, R31, R33 to R36, R71). -/
def State.conclude (s : State) (k : StreamId) (g : Segment) (v : Verdict) : State :=
  match v with
  | .outOfState => s
  | .duplicate => s
  | .mismatchShape => if (s.stream k).state = .acquire then s else s.reject k
  | .mismatchTimeline => s.reject k
  | .late => s.reject k
  | .early => s.reject k
  | .first => (s.store k g).modStream k fun st => st.startLock g
  | .accepted =>
    if (s.stream k).state = .holdover then
      ((s.store k g).modStream k fun st => st.accept g).clearAlarm k .starved
    else (s.store k g).modStream k fun st => st.accept g

/-- The effects of a segment on its path (R28 to R30, R37, R147, R151). -/
def State.tallyPath (s : State) (k : StreamId) (p : Port) (g : Segment) (v : Verdict) : State :=
  match v with
  | .outOfState => s
  | .mismatchShape =>
    s.modStream k fun st => st.modPath p fun c => { c with counters := c.counters.tally .mismatchShape }
  | v =>
    (s.clearPathDown k p).modStream k fun st =>
      st.modPath p fun c => { c with counters := c.counters.tally v }.arrive s.tb.h g.seq

/-- The classification of a segment and all its effects, as one event (R28). -/
def State.classify (s : State) (k : StreamId) (p : Port) (g : Segment) : State :=
  let v := (s.stream k).verdict g
  (s.tallyPath k p g v).conclude k g v

/-! ### Admission and the commands -/

/-- The place of the stream that a segment names, if its record is enabled and its path admission includes the port
(R8). -/
def State.admitted (s : State) (p : Port) (g : Segment) : Option StreamId :=
  match readStreamId g.stream with
  | none => none
  | some k => if (s.stream k).enabled && (s.stream k).record.shape.admission.includes p then some k else none

/-- The classifier is handed the segment: the reset line is released (R16), and the segment is well-formed and admitted
(R7, R8; log 6). -/
def State.handed (s : State) (p : Port) (g : Segment) : Option StreamId :=
  if !s.pins.resetLine && g.wellFormed then s.admitted p g else none

/-- AUDIO_SEGMENT (R28). -/
def execAudioSegment (p : Port) (g : Segment) (s : State) : Host.Outcome State Fault Refusal :=
  match s.handed p g with
  | none => .next s
  | some k => .next (s.classify k p g)

/-- The segment's rejection brings the reject run to 16 (R36). In ACQUIRE the run stays at 0 (R29). -/
def Stream.rejectionRelocks (st : Stream) (g : Segment) : Bool :=
  (st.verdict g).rejects && !decide (st.state = .acquire) && decide (16 ≤ st.rejectRun + 1)

/-- REJECT_RUN_RELOCK (R36): the segment whose rejection brings the reject run to 16. -/
def execRejectRunRelock (p : Port) (g : Segment) (s : State) : Host.Outcome State Fault Refusal :=
  match s.handed p g with
  | none => .next s
  | some k => .next (if (s.stream k).rejectionRelocks g then s.classify k p g else s)

end Sys2Proof.Machine
end

