-- ==== Sys2Proof/Machine/Conceal.lean ====
section
/-! DEFINITION. The concealment unit (spec/07): fill methods, the cover table's applying entry, the cover read and the
concealment frame. -/

namespace Sys2Proof.Machine

/-- A frame with a value in each channel below the channel count and 0 above (R80, R109). -/
def perChannel (channels : Nat) (f : Fin 16 → Sample) : Frame :=
  Vector.ofFn fun c => if c.val < channels then f c else 0

/-- FADE of a sample: 0 if its magnitude is below 256, and otherwise v − trunc(v / 256) (R112). -/
def fadeValue (v : Sample) : Sample :=
  if v.toInt.natAbs < 256 then 0 else BitVec.ofInt 24 (v.toInt - v.toInt.tdiv 256)

/-- The value of a fill method, from the last output (R111, R112). -/
def FillMethod.value : FillMethod → Sample → Sample
  | .zero, _ => 0
  | .hold, v => v
  | .fade, v => fadeValue v

/-- The applying entry of a primary stream: the lowest-numbered entry in use that names it (R115). -/
def State.applyingEntry (s : State) (k : StreamId) : Option CoverEntry :=
  s.cover.toList.find? fun e => e.inUse && decide (e.primary = k)

/-- The playout point of the present house frame of a stream: P before its frame stage, the frame origin after it
(R78, R117). -/
def Stream.framePoint (st : Stream) : Origin := if st.frameDue then st.playPoint else st.frameOrigin

/-- What the applying entry's cover stream supplies for this house frame, if it supplies: its channel count and its
received frame (R116, R117). -/
def State.coverRead (s : State) (k : StreamId) : Option (Nat × Frame) :=
  match s.applyingEntry k with
  | none => none
  | some e =>
    if (s.stream e.cover).state.plays then
      match s.frameAt e.cover (s.stream e.cover).framePoint with
      | none => none
      | some f => some ((s.stream e.cover).record.shape.channels, f)
    else none

/-- The cover value of a channel, where the cover read supplies one (R116). -/
def coverValue (cover : Option (Nat × Frame)) (c : Fin 16) : Option Sample :=
  match cover with
  | none => none
  | some (n, f) => if c.val < n then some f[c] else none

/-- The concealment frame: per channel the cover value where there is one, and otherwise the fill method's value of the
last output (R110). -/
def Stream.concealment (st : Stream) (cover : Option (Nat × Frame)) : Frame :=
  perChannel st.record.shape.channels fun c =>
    (coverValue cover c).getD (st.inForce.fill.value st.lastOut[c])

/-- The output in ACQUIRE and FILLING: cover values, and 0 elsewhere (R118). -/
def Stream.coverOnly (st : Stream) (cover : Option (Nat × Frame)) : Frame :=
  perChannel st.record.shape.channels fun c => (coverValue cover c).getD 0

end Sys2Proof.Machine
end

