-- ==== Sys2Proof/Machine/Playout.lean ====
section
/-! DEFINITION. The playout engine (spec/05, spec/06 section 6.4) and the stream table's in-force copy (R19), with the
commands IN_FORCE_TUNING_COPY, PLAYOUT_ENGINE_WORK, ENTER_PLAYING, STARVE_TIMEOUT, HOLDOVER_LIMIT_RELOCK, DROP_FRAME,
INSERT_FRAME and SILENCE_WINDOW. -/

namespace Sys2Proof.Machine

/-! ### The in-force copy -/

/-- The record's tuning fields are put in force (R19). -/
def Stream.copyTuning (st : Stream) : Stream := { st with inForce := st.record.tuning }

/-- IN_FORCE_TUNING_COPY (R19): the stream table's event of a block boundary, one event over every record (R20, R55). -/
def execInForceTuningCopy (scope : CopyScope) (s : State) : Host.Outcome State Fault Refusal :=
  match scope with
  | .allStreams =>
    .next (if !s.pins.resetLine && s.copyDue then { s.mapStreams Stream.copyTuning with copyDue := false } else s)

/-! ### The boundary stage (section 5.4) -/

/-- Quiet blocks after the advance of a boundary, saturating at 65535 (R84). -/
def Stream.quietAdvanced (st : Stream) : Nat := min (st.quiet + 1) 65535

/-- Holdover blocks after the advance of a boundary (R85). -/
def Stream.holdoverAdvanced (st : Stream) : Nat := min (st.holdover + 1) 65535

/-- The boundary stage enters HOLDOVER: PLAYING with quiet blocks at or above the starve timeout, tested after the advance
(R70, R84, R86). Where an acceptance has come first in the same house frame the stream stays in PLAYING (R40); the two
differ for a starve timeout of 1 alone, which the advance reaches from the 0 that the acceptance set (DEDUCED: log 34 follows
R40 there). -/
def Stream.starves (st : Stream) : Bool :=
  decide (st.state = .playing) && !st.accepted && decide (st.closing.starveTimeout ≤ st.quietAdvanced)

/-- The boundary stage relocks: HOLDOVER with holdover blocks at or above the holdover limit (R72, R86). -/
def Stream.holdoverEnds (st : Stream) : Bool :=
  decide (st.state = .holdover) && decide (st.closing.holdoverLimit ≤ st.holdoverAdvanced)

/-- The boundary stage of a stream (R70, R72, R84, R85). -/
def State.boundaryStage (s : State) (k : StreamId) : State :=
  match (s.stream k).state with
  | .playing =>
    if (s.stream k).starves then
      (s.modStream k fun st => { st with quiet := st.quietAdvanced, state := .holdover, holdover := 0 }).raise k
        .starved
    else s.modStream k fun st => { st with quiet := st.quietAdvanced }
  | .holdover =>
    if (s.stream k).holdoverEnds then s.relock k
    else s.modStream k fun st => { st with quiet := st.quietAdvanced, holdover := st.holdoverAdvanced }
  | .idle => s
  | .acquire => s
  | .filling => s

/-! ### The frame stage (section 5.3) -/

/-- The slip a frame stage makes: slip due in PLAYING, and none in the other states (R81). -/
def Stream.slipMade (st : Stream) : Slip := if st.state = .playing then st.slipDue else .none

/-- How many frames a frame stage advances P by (R79). -/
def Stream.advance (st : Stream) : Nat :=
  match st.state with
  | .idle => 0
  | .acquire => 0
  | .filling => 1
  | .holdover => 1
  | .playing =>
    match st.slipDue with
    | .none => 1
    | .drop => 2
    | .insert => 0

/-- What a frame stage forms: the output frame, whether a concealment frame was formed, and whether a channel of the
output was given a cover value (R80, R121). -/
structure StageOutput where
  out       : Frame
  concealed : Bool
  covered   : Bool
  deriving DecidableEq, Repr

/-- The average, channel by channel, of two frames (R103, R104). -/
def Stream.averageFrames (st : Stream) (a b : Frame) : Frame :=
  perChannel st.record.shape.channels fun c => averageTrunc a[c] b[c]

/-- The output of a frame stage in PLAYING or HOLDOVER (R80, R103 to R105, R110, R121). -/
def State.playedOutput (s : State) (k : StreamId) : StageOutput :=
  let st := s.stream k
  let cover := s.coverRead k
  let fill := st.concealment cover
  let atP := s.frameAt k st.playPoint
  match st.slipMade with
  | .none =>
    match atP with
    | some f => ⟨f, false, false⟩
    | none => ⟨fill, true, cover.isSome⟩
  | .drop =>
    let next := s.frameAt k (st.playPoint + 1)
    let missing := atP.isNone || next.isNone
    ⟨st.averageFrames (atP.getD fill) (next.getD fill), missing, missing && cover.isSome⟩
  | .insert =>
    ⟨st.averageFrames st.lastOut (atP.getD fill), atP.isNone, atP.isNone && cover.isSome⟩

/-- The output of a frame stage (R80, R118). -/
def State.formOutput (s : State) (k : StreamId) : StageOutput :=
  match (s.stream k).state with
  | .idle => ⟨Frame.zero, false, false⟩
  | .acquire => ⟨(s.stream k).coverOnly (s.coverRead k), false, (s.coverRead k).isSome⟩
  | .filling => ⟨(s.stream k).coverOnly (s.coverRead k), false, (s.coverRead k).isSome⟩
  | .playing => s.playedOutput k
  | .holdover => s.playedOutput k

/-- The advance of P brings a stream in FILLING to t0 (R69). -/
def Stream.reachesFillStart (st : Stream) : Bool :=
  decide (st.state = .filling) && decide (st.playPoint + 1 = st.fillStart)

/-- The entry into PLAYING from FILLING, less the latch of LOCKED (R69, R102). -/
def Stream.enterPlaying (st : Stream) : Stream :=
  { st with state := .playing, quiet := 0, holdover := 0, slipDue := .none, servo := Servo.zero }

/-- The frame origin after a frame stage: P as the stage finds it (R78), and kept in IDLE, for R76 keeps it until the next
ENABLE (DEDUCED: log 36). -/
def Stream.originStaged (st : Stream) : Origin := if st.state = .idle then st.frameOrigin else st.playPoint

/-- The stream's part of a frame stage: frame origin, slip due, P, the concealment counters (R76, R78, R79, R81, R121),
and the output kept by the concealment unit and handed to the route matrix (R83, R109). -/
def Stream.staged (st : Stream) (o : StageOutput) : Stream :=
  { st with frameOrigin := st.originStaged, slipDue := .none,
            playPoint := st.playPoint + BitVec.ofNat 32 st.advance,
            concealed := if o.concealed then Counter.inc st.concealed else st.concealed,
            covered := if o.covered then Counter.inc st.covered else st.covered,
            lastOut := o.out, handed := o.out, frameDue := false }

/-- The hand-off to the silence detector: the block closes at a boundary if it is still open, and then the sample of this
house frame enters the new block (R83, R153, R154). -/
def State.handToDetector (s : State) (k : StreamId) (formedIn : PlayState) (out : Frame) : State :=
  (s.closePeak k).modStream k fun st => st.enterPeak formedIn out

/-- The frame stage of a stream (R78). A latch of LOCKED is taken after a raise of SILENCE of the same event, by the
priority order of R168 (log 30). -/
def State.frameStage (s : State) (k : StreamId) : State :=
  let st := s.stream k
  let o := s.formOutput k
  if st.reachesFillStart then
    ((s.modStream k fun t => (t.staged o).enterPlaying).handToDetector k st.state o.out).latch .locked k.number
  else (s.modStream k fun t => t.staged o).handToDetector k st.state o.out

/-! ### The work of a house frame -/

/-- The present house frame is a block boundary (R55). -/
def State.atBoundary (s : State) : Bool := decide (s.tb.phase = 0)

/-- The playout engine's work for a stream: the boundary stage at a boundary, then the frame stage (R78). -/
def State.playoutWork (s : State) (k : StreamId) : State :=
  if s.atBoundary then (s.boundaryStage k).frameStage k else s.frameStage k

/-- The stream as its frame stage finds it (R78). -/
def State.beforeFrameStage (s : State) (k : StreamId) : Stream :=
  if s.atBoundary then (s.boundaryStage k).stream k else s.stream k

/-- The playout engine's work for a stream arises: it is due in this house frame (R78), and the reset line is released
(R66). -/
def State.playoutArises (s : State) (k : StreamId) : Bool := !s.pins.resetLine && (s.stream k).frameDue

/-- PLAYOUT_ENGINE_WORK (R78). -/
def execPlayoutEngineWork (k : StreamId) (s : State) : Host.Outcome State Fault Refusal :=
  .next (if s.playoutArises k then s.playoutWork k else s)

/-- ENTER_PLAYING (R69): the work whose frame stage brings P to t0. -/
def execEnterPlaying (k : StreamId) (s : State) : Host.Outcome State Fault Refusal :=
  .next (if s.playoutArises k && (s.stream k).reachesFillStart then s.playoutWork k else s)

/-- STARVE_TIMEOUT (R70): the work whose boundary stage enters HOLDOVER. -/
def execStarveTimeout (k : StreamId) (s : State) : Host.Outcome State Fault Refusal :=
  .next (if s.playoutArises k && s.atBoundary && (s.stream k).starves then s.playoutWork k else s)

/-- HOLDOVER_LIMIT_RELOCK (R72): the work whose boundary stage relocks. -/
def execHoldoverLimitRelock (k : StreamId) (s : State) : Host.Outcome State Fault Refusal :=
  .next (if s.playoutArises k && s.atBoundary && (s.stream k).holdoverEnds then s.playoutWork k else s)

/-- DROP_FRAME (R103): the work whose frame stage is a drop frame. -/
def execDropFrame (k : StreamId) (s : State) : Host.Outcome State Fault Refusal :=
  .next (if s.playoutArises k && decide ((s.beforeFrameStage k).slipMade = .drop) then s.playoutWork k else s)

/-- INSERT_FRAME (R104): the work whose frame stage is an insert frame. -/
def execInsertFrame (k : StreamId) (s : State) : Host.Outcome State Fault Refusal :=
  .next (if s.playoutArises k && decide ((s.beforeFrameStage k).slipMade = .insert) then s.playoutWork k else s)

/-- The close of the block peak that the playout engine's hand-off makes at this boundary raises SILENCE: the close is
still to be taken, and it reads the state that the boundary stage leaves (R154). The entry into PLAYING from FILLING
comes before the hand-off (R78). -/
def State.handOffRaises (s : State) (k : StreamId) : Bool :=
  let st := s.beforeFrameStage k
  st.peakDue && (if st.reachesFillStart then st.enterPlaying else st).closeRaises

/-- SILENCE_WINDOW (R155): the event whose close raises SILENCE, the monitor unit's work or the hand-off (R154). -/
def execSilenceWindow (k : StreamId) (closer : Closer) (s : State) : Host.Outcome State Fault Refusal :=
  match closer with
  | .monitorWork =>
    .next (if s.monitorArises k && (s.stream k).peakDue && (s.stream k).closeRaises then s.monitorWork k else s)
  | .handOff => .next (if s.playoutArises k && s.handOffRaises k then s.playoutWork k else s)

end Sys2Proof.Machine
end

