-- ==== Sys2Proof/Machine/Ports.lean ====
section
/-! DEFINITION. The link ports (spec/01): reception of a frame, the link state and the completion of a transmission, with
the commands FRAME_RECEPTION, LINK_STATE_CHANGE and TRANSMISSION_COMPLETE. -/

namespace Sys2Proof.Machine

/-- What a port finds a received frame to be (section 1.2). -/
inductive Reception where
  | badFcs
  | foreign
  | malformed
  | unadmitted
  | segment (k : StreamId) (g : Segment)
  | request (r : Request)
  deriving DecidableEq, Repr

/-- A kind-1 frame that has passed R6 (R7, R8). -/
def State.judgeSegment (s : State) (p : Port) (transport : List Byte) : Reception :=
  if segmentFits transport then
    match s.admitted p (readSegment transport) with
    | none => .unadmitted
    | some k => .segment k (readSegment transport)
  else .malformed

/-- A frame that has passed R5, by its kind and version (R6, R10). -/
def State.judgeKind (s : State) (p : Port) (f : FrameParts) : Reception :=
  if field f.transport 1 1 = 1 then
    match field f.transport 0 1 with
    | 1 => s.judgeSegment p f.transport
    | 2 => if headerFits f.transport then .request (readRequest p f) else .malformed
    | _ => .foreign
  else .foreign

/-- A frame that has passed R4 is meant for the port: its station address or a group address, and its transport type
(R5). -/
def LinkPort.accepts (l : LinkPort) (f : FrameParts) : Bool :=
  (decide (f.dest = l.station) || isGroup f.dest) && decide (f.etherType = l.etherType)

/-- The outcome of the tests of section 1.2, made in their order. -/
def State.judgeFrame (s : State) (p : Port) (f : RxFrame) : Reception :=
  if f.fcsOk && RxFrame.lengthOk f then
    if (s.port p).accepts (splitFrame f.bytes) then s.judgeKind p (splitFrame f.bytes) else .foreign
  else .badFcs

/-- The port counters after a reception (section 1.6). A hand-off counts in frames received alone. -/
def PortCounters.count (c : PortCounters) : Reception → PortCounters
  | .badFcs => { c with badFcs := Counter.inc c.badFcs }
  | .foreign => { c with framesReceived := Counter.inc c.framesReceived, foreign := Counter.inc c.foreign }
  | .malformed => { c with framesReceived := Counter.inc c.framesReceived, malformed := Counter.inc c.malformed }
  | .unadmitted => { c with framesReceived := Counter.inc c.framesReceived, unadmitted := Counter.inc c.unadmitted }
  | .segment _ _ => { c with framesReceived := Counter.inc c.framesReceived }
  | .request _ => { c with framesReceived := Counter.inc c.framesReceived }

/-- The hand-off of a received frame: a segment to the classifier (R9), a request to the agent (R10), at the moment the
reception completes (log 6). -/
def State.handOver (s : State) (p : Port) : Reception → State
  | .badFcs => s
  | .foreign => s
  | .malformed => s
  | .unadmitted => s
  | .segment k g => s.classify k p g
  | .request r => s.handle r

/-- The reception of a frame: it is judged, counted and handed over (section 1.2). -/
def State.receive (s : State) (p : Port) (f : RxFrame) : State :=
  (s.countPort p fun c => c.count (s.judgeFrame p f)).handOver p (s.judgeFrame p f)

/-- The port receives and transmits: the reset line is released (R16) and its link is UP (R3). -/
def State.listens (s : State) (p : Port) : Bool := !s.pins.resetLine && (s.port p).linkUp

/-- FRAME_RECEPTION (R4). -/
def execFrameReception (p : Port) (f : RxFrame) (s : State) : Host.Outcome State Fault Refusal :=
  .next (if s.listens p then s.receive p f else s)

/-- LINK_STATE_CHANGE (R3): a link that goes DOWN loses the frames of its transmit queue, uncounted. -/
def execLinkStateChange (p : Port) (up : Bool) (s : State) : Host.Outcome State Fault Refusal :=
  .next (s.modPort p fun l => { l with linkUp := up, queue := if up then l.queue else [] })

/-- The port counters after a transmission completes (R12). -/
def PortCounters.sent (c : PortCounters) : TxKind → PortCounters
  | .reply => { c with repliesSent := Counter.inc c.repliesSent }
  | .notice => { c with alertsSent := Counter.inc c.alertsSent }

/-- A port after the transmission of its oldest frame completes (R12). -/
def LinkPort.complete (l : LinkPort) : LinkPort :=
  match l.queue with
  | [] => l
  | f :: rest => { l with queue := rest, counters := l.counters.sent f.kind }

/-- TRANSMISSION_COMPLETE (R12). A port with nothing in its queue has nothing to complete, and a port transmits nothing
while the reset line is asserted (R16) or its link is DOWN (R3). -/
def execTransmissionComplete (p : Port) (s : State) : Host.Outcome State Fault Refusal :=
  .next (if s.listens p then s.modPort p LinkPort.complete else s)

end Sys2Proof.Machine
end

