-- ==== Sys2Proof/Machine/Timebase.lean ====
section
/-! DEFINITION. The house timebase (spec/04), with the commands REFERENCE_EDGE, MISSED_EDGE_FRAME, ENTER_FREE_RUN,
OSCILLATOR_FRAME, GOOD_EDGE_RUN_LAPSE and ENTER_LOCKED_REF. Spans and offsets of an edge are in 1/65536 of the
oscillator's frame period (log 3). -/

namespace Sys2Proof.Machine

/-- The count of the next house frame: 0 for the first after power-on, and otherwise one more (R54). -/
def Timebase.nextCount (t : Timebase) : HouseCount := if t.firstDue then 0 else t.h + 1

/-- The block phase that the next house frame takes by the advance of R55; the first after power-on has phase 0 (R65). -/
def Timebase.nextPhase (t : Timebase) : Phase := if t.firstDue then 0 else t.phase + 1

/-- A new house frame at a stream: the playout engine's work is due, and at a block boundary the servo step, the
monitor unit's work and the close of the block peak (R54, R55). The in-force tuning as the closing block held it is kept
for the boundary's work (R19; log 14), and no segment has yet been accepted in the new house frame (R40). -/
def Stream.newFrame (boundary : Bool) (st : Stream) : Stream :=
  { st with frameDue := true, stepDue := boundary, monitorDue := boundary, peakDue := boundary,
            closing := if boundary then st.inForce else st.closing, accepted := false }

/-- A new house frame at the gallery bus port: what was formed in the frame before becomes one frame older (R144). -/
def GalleryBus.newFrame (b : GalleryBus) : GalleryBus :=
  { b with formed0 := none, formed1 := b.formed0, formed2 := b.formed1, due := true }

/-- The block phase of a house frame that takes phase `p` by the advance: a mark that finds 1 to 47 with re-phase on
makes it 0 (R61). -/
def rephased (mark rephase : Bool) (p : Phase) : Phase := if mark && decide (p ≠ 0) && rephase then 0 else p

/-- A house frame is produced, with a mark taken on it or none (R54, R55, R60, R61). While the reset line is asserted
only the gallery bus port acts on it (R66). -/
def State.houseFrame (s : State) (mark : Bool) : State :=
  let p := s.tb.nextPhase
  let phase := rephased mark s.dev.rephase p
  let tb := { s.tb with h := s.tb.nextCount, phase := phase, lastMark := if mark then p else s.tb.lastMark,
                        firstDue := false }
  let t : State :=
    if s.pins.resetLine then { s with tb := tb, bus := s.bus.newFrame }
    else
      { s.mapStreams (Stream.newFrame (decide (phase = 0))) with
        tb := tb, copyDue := decide (phase = 0), bus := s.bus.newFrame, matrix := { s.matrix with due := true } }
  if mark && decide (p ≠ 0) then t.latch .markSlip 0 else t

/-- An edge frame: the edge falls within half a frame period of the expected instant (R56; log 9). -/
def Edge.inWindow (e : Edge) : Bool := decide (e.offset.natAbs ≤ 32768)

/-- A good span: 15/16 to 17/16 of the oscillator's frame period, both ends included (R58). -/
def Edge.goodSpan (e : Edge) : Bool := decide (61440 ≤ e.span) && decide (e.span ≤ 69632)

/-- The entry into LOCKED_REF (R59). The house frame that falls at the edge is produced, and its mark, if any, is taken
(R60; log 8). MARK_SLIP is latched before REF_RESTORED (R168). -/
def State.lockReference (s : State) (mark : Bool) : State :=
  ((State.clearRefLost
    { s with tb := { s.tb with ref := .lockedRef, goodRun := 0, missedRun := 0, spanOpen := false } }).houseFrame
      mark).latch .refRestored 0

/-- The edge brings the good-edge run to 480 in FREE_RUN (R59). -/
def State.edgeLocks (s : State) (e : Edge) : Bool :=
  !s.pins.resetLine && decide (s.tb.ref = .freeRun) && s.tb.spanOpen && Edge.goodSpan e
    && decide (480 ≤ s.tb.goodRun + 1)

/-- A reference edge (R56, R58, R59). While the reset line is asserted edges are not measured (R66). -/
def State.edge (s : State) (e : Edge) : State :=
  if s.pins.resetLine then s
  else
    match s.tb.ref with
    | .lockedRef =>
      if Edge.inWindow e then State.houseFrame { s with tb := { s.tb with missedRun := 0 } } e.mark else s
    | .freeRun =>
      if s.tb.spanOpen then
        if Edge.goodSpan e then
          if 480 ≤ s.tb.goodRun + 1 then s.lockReference e.mark
          else { s with tb := { s.tb with goodRun := s.tb.goodRun + 1 } }
        else { s with tb := { s.tb with goodRun := 0 } }
      else { s with tb := { s.tb with spanOpen := true } }

/-- A missed-edge frame (R56), and at a run of 4 the entry into FREE_RUN by loss (R57). -/
def State.missedEdge (s : State) : State :=
  if 4 ≤ s.tb.missedRun + 1 then
    State.raiseRefLost
      { s.houseFrame false with
        tb := { (s.houseFrame false).tb with ref := .freeRun, missedRun := 0, goodRun := 0, spanOpen := false } }
  else
    { s.houseFrame false with tb := { (s.houseFrame false).tb with missedRun := s.tb.missedRun + 1 } }

/-- A missed-edge frame arises in LOCKED_REF alone, with the reset line released (R56, R66). -/
def State.missedEdgeArises (s : State) : Bool := !s.pins.resetLine && decide (s.tb.ref = .lockedRef)

/-- REFERENCE_EDGE (R56). -/
def execReferenceEdge (e : Edge) (s : State) : Host.Outcome State Fault Refusal := .next (s.edge e)

/-- MISSED_EDGE_FRAME (R56). -/
def execMissedEdgeFrame (s : State) : Host.Outcome State Fault Refusal :=
  .next (if s.missedEdgeArises then s.missedEdge else s)

/-- ENTER_FREE_RUN (R57): the missed-edge frame that brings the run to 4. -/
def execEnterFreeRun (s : State) : Host.Outcome State Fault Refusal :=
  .next (if s.missedEdgeArises && decide (4 ≤ s.tb.missedRun + 1) then s.missedEdge else s)

/-- OSCILLATOR_FRAME (R57): in FREE_RUN the oscillator produces the house frames, the reset line asserted or not
(R66). -/
def execOscillatorFrame (s : State) : Host.Outcome State Fault Refusal :=
  .next (if s.tb.ref = .freeRun then s.houseFrame false else s)

/-- GOOD_EDGE_RUN_LAPSE (R58): the good-edge run becomes 0, and the next edge begins a new span. -/
def execGoodEdgeRunLapse (s : State) : Host.Outcome State Fault Refusal :=
  .next (if !s.pins.resetLine && decide (s.tb.ref = .freeRun) then
      { s with tb := { s.tb with goodRun := 0, spanOpen := false } }
    else s)

/-- ENTER_LOCKED_REF (R59): the good edge that brings the run to 480. -/
def execEnterLockedRef (e : Edge) (s : State) : Host.Outcome State Fault Refusal :=
  .next (if s.edgeLocks e then s.edge e else s)

end Sys2Proof.Machine
end

