-- ==== Sys2Proof/Machine/Dispatch.lean ====
section
/-! DEFINITION. The dispatcher: one arm for each command of Instr, each a call of that command's meaning. -/

namespace Sys2Proof.Machine

/-- The effect of a command on everything but the queue. -/
def exec (i : Instr) (s : State) : Host.Outcome State Fault Refusal :=
  match i with
  | .powerOn straps => Sys2Proof.Machine.execPowerOn straps s
  | .resetLineAssert => Sys2Proof.Machine.execResetLineAssert s
  | .resetLineRelease => Sys2Proof.Machine.execResetLineRelease s
  | .linkStateChange p up => Sys2Proof.Machine.execLinkStateChange p up s
  | .cutLineChange line asserted => Sys2Proof.Machine.execCutLineChange line asserted s
  | .protectLineChange asserted => Sys2Proof.Machine.execProtectLineChange asserted s
  | .frameReception p f => Sys2Proof.Machine.execFrameReception p f s
  | .audioSegment p g => Sys2Proof.Machine.execAudioSegment p g s
  | .rejectRunRelock p g => Sys2Proof.Machine.execRejectRunRelock p g s
  | .referenceEdge e => Sys2Proof.Machine.execReferenceEdge e s
  | .missedEdgeFrame => Sys2Proof.Machine.execMissedEdgeFrame s
  | .enterFreeRun => Sys2Proof.Machine.execEnterFreeRun s
  | .oscillatorFrame => Sys2Proof.Machine.execOscillatorFrame s
  | .goodEdgeRunLapse => Sys2Proof.Machine.execGoodEdgeRunLapse s
  | .enterLockedRef e => Sys2Proof.Machine.execEnterLockedRef e s
  | .inForceTuningCopy scope => Sys2Proof.Machine.execInForceTuningCopy scope s
  | .playoutEngineWork k => Sys2Proof.Machine.execPlayoutEngineWork k s
  | .enterPlaying k => Sys2Proof.Machine.execEnterPlaying k s
  | .starveTimeout k => Sys2Proof.Machine.execStarveTimeout k s
  | .holdoverLimitRelock k => Sys2Proof.Machine.execHoldoverLimitRelock k s
  | .dropFrame k => Sys2Proof.Machine.execDropFrame k s
  | .insertFrame k => Sys2Proof.Machine.execInsertFrame k s
  | .servoStep k => Sys2Proof.Machine.execServoStep k s
  | .monitorBoundaryWork k => Sys2Proof.Machine.execMonitorBoundaryWork k s
  | .pathTimeout k p => Sys2Proof.Machine.execPathTimeout k p s
  | .intervalSaturation k p => Sys2Proof.Machine.execIntervalSaturation k p s
  | .silenceWindow k closer => Sys2Proof.Machine.execSilenceWindow k closer s
  | .routeMatrixEvent => Sys2Proof.Machine.execRouteMatrixEvent s
  | .swapPerformed => Sys2Proof.Machine.execSwapPerformed s
  | .transitionEnd => Sys2Proof.Machine.execTransitionEnd s
  | .galleryBusFrame => Sys2Proof.Machine.execGalleryBusFrame s
  | .transmissionComplete p => Sys2Proof.Machine.execTransmissionComplete p s
  | .readStream m => Sys2Proof.Machine.execReadStream m s
  | .readStreamStatus m => Sys2Proof.Machine.execReadStreamStatus m s
  | .readRouteActive m => Sys2Proof.Machine.execReadRouteActive m s
  | .readRouteStandby m => Sys2Proof.Machine.execReadRouteStandby m s
  | .readCover m => Sys2Proof.Machine.execReadCover m s
  | .readPattern m => Sys2Proof.Machine.execReadPattern m s
  | .readDevice m => Sys2Proof.Machine.execReadDevice m s
  | .readPortCounters m => Sys2Proof.Machine.execReadPortCounters m s
  | .readPathCounters m => Sys2Proof.Machine.execReadPathCounters m s
  | .readMonitors m => Sys2Proof.Machine.execReadMonitors m s
  | .readTimebase m => Sys2Proof.Machine.execReadTimebase m s
  | .writeStream m => Sys2Proof.Machine.execWriteStream m s
  | .writeRouteStandby m => Sys2Proof.Machine.execWriteRouteStandby m s
  | .writeCover m => Sys2Proof.Machine.execWriteCover m s
  | .writePattern m => Sys2Proof.Machine.execWritePattern m s
  | .writeDevice m => Sys2Proof.Machine.execWriteDevice m s
  | .enable m => Sys2Proof.Machine.execEnable m s
  | .disable m => Sys2Proof.Machine.execDisable m s
  | .relock m => Sys2Proof.Machine.execRelock m s
  | .swap object m => Sys2Proof.Machine.execSwap object m s
  | .copy object m => Sys2Proof.Machine.execCopy object m s
  | .peekEvents object m => Sys2Proof.Machine.execPeekEvents object m s
  | .readEvents object m => Sys2Proof.Machine.execReadEvents object m s
  | .collectPortCounters m => Sys2Proof.Machine.execCollectPortCounters m s
  | .collectPathCounters m => Sys2Proof.Machine.execCollectPathCounters m s
  | .collectMonitors m => Sys2Proof.Machine.execCollectMonitors m s
  | .reset object m => Sys2Proof.Machine.execReset object m s
  | .resetClearTables object m => Sys2Proof.Machine.execResetClearTables object m s
  | .unknownRequest code object m => Sys2Proof.Machine.execUnknownRequest code object m s
  | .requestNotApplyingToObject code object m => Sys2Proof.Machine.execRequestNotApplyingToObject code object m s

end Sys2Proof.Machine
end

