-- ==== Sys2Proof/Safety.lean ====
section
/-! DEFINITION. What the manual promises of every state of the block, in the terms the claims use: one predicate for each
block, and the form a run keeps. -/

namespace Sys2Proof.Machine

/-! ### Sample memory and ports -/

/-- Sample memory is in its canonical form (R42; log 12). -/
def State.MemorySound (s : State) : Prop := Memory.wf s.mem = true

/-- A transmit queue holds at most 4 frames (R12), and none while the link is DOWN (R3) or the reset line is asserted
(R16). -/
def LinkPort.QueueSound (l : LinkPort) (asserted : Bool) : Prop :=
  l.queue.length ≤ 4 ∧ (l.linkUp = false → l.queue = []) ∧ (asserted = true → l.queue = [])

/-- Both transmit queues are sound. -/
def State.QueuesSound (s : State) : Prop := ∀ p, (s.port p).QueueSound s.pins.resetLine

/-- The settings a port may hold: an individual station address that is not all zeros (the least significant bit of its first
byte is bit 40), and a transport type of 0x0600 or more that is not 0x8100 (R1, R2). -/
structure LinkPort.SettingsSound (l : LinkPort) : Prop where
  individual : l.station.getLsbD 40 = false
  station : l.station ≠ 0
  etherType : 0x0600 ≤ l.etherType.toNat
  untagged : l.etherType ≠ 0x8100

/-- The settings of both ports are sound. -/
def State.PortsSound (s : State) : Prop := ∀ p, (s.port p).SettingsSound

/-! ### Timebase -/

/-- The runs stay below the values at which the reference state changes (R57, R59), each is 0 in the state that does not
count it (R57, R58, R59), REF_LOST is active in FREE_RUN alone (R57, R59), and until the first house frame after power-on the
count and the phase are 0 (R54, R65; log 7). -/
structure State.TimebaseSound (s : State) : Prop where
  missed : s.tb.missedRun < 4
  good : s.tb.goodRun < 480
  freeRun : s.tb.ref = .freeRun → s.tb.missedRun = 0
  lockedRef : s.tb.ref = .lockedRef → s.tb.goodRun = 0
  refLost : s.ev.refLost = true → s.tb.ref = .freeRun
  first : s.tb.firstDue = true → s.tb.h = 0 ∧ s.tb.phase = 0

/-! ### Events -/

/-- The kinds whose scope is the device (spec/10 section 10.3). -/
def EventKind.device : EventKind → Bool
  | .refLost => true
  | .markSlip => true
  | .refRestored => true
  | .bankSwapped => true
  | .starved => false
  | .relocked => false
  | .servoLimit => false
  | .pathADown => false
  | .pathBDown => false
  | .silence => false
  | .locked => false

/-- The number of an event kind: its priority and its code; its bit in the event and alert enables is one less (spec/10
section 10.3, spec/12 section 12.2). -/
def EventKind.number : EventKind → Nat
  | .refLost => 1
  | .starved => 2
  | .relocked => 3
  | .servoLimit => 4
  | .pathADown => 5
  | .pathBDown => 6
  | .silence => 7
  | .markSlip => 8
  | .refRestored => 9
  | .locked => 10
  | .bankSwapped => 11

/-- The event that the raise of a stream alarm latches (spec/10 section 10.3). -/
def StreamAlarm.latches : StreamAlarm → EventKind
  | .starved => .starved
  | .servoLimit => .servoLimit
  | .pathADown => .pathADown
  | .pathBDown => .pathBDown
  | .silence => .silence

/-- One pair stands before another in the order of R169: by its kind's number, and within a kind by stream. -/
abbrev EventEntry.Before (a b : EventEntry) : Prop :=
  a.kind.number < b.kind.number ∨ (a.kind.number = b.kind.number ∧ a.stream < b.stream)

/-- A pair that the manual has: a device event with stream 0, or a stream event with stream 1 to 64, and a count of 1 to
255 (R167). -/
structure EventEntry.Sound (e : EventEntry) : Prop where
  scope : if e.kind.device then e.stream = 0 else 1 ≤ e.stream ∧ e.stream ≤ 64
  count : 1 ≤ e.count ∧ e.count ≤ 255

/-- The event set holds sound pairs, each once, in the order of R169. -/
structure State.EventsSound (s : State) : Prop where
  entries : ∀ e ∈ s.ev.events, e.Sound
  order : s.ev.events.Pairwise EventEntry.Before

/-! ### Streams -/

/-- A stream's state, lock and alarms agree: IDLE is the state of a disabled stream (R25, R26), STARVED is active in
HOLDOVER alone (R87), the anchor is absent in IDLE and ACQUIRE alone and no tag is held without it (R44, R47, R68), a
disabled stream has no active alarm (R162), the reject run stays below 16 (R36), and a slip is due in PLAYING alone
(R81). -/
structure Stream.LockSound (st : Stream) : Prop where
  idle : st.state = .idle ↔ st.enabled = false
  starved : st.alarms.starved = true ↔ st.state = .holdover
  anchor : st.anchor = none ↔ st.state = .idle ∨ st.state = .acquire
  emptied : st.anchor = none → st.tags = []
  alarms : st.state = .idle → st.alarms = AlarmFlags.none
  rejectRun : st.rejectRun < 16
  slip : st.slipDue ≠ .none → st.state = .playing

/-- Every stream's lock is sound. -/
def State.LocksSound (s : State) : Prop := ∀ k, (s.stream k).LockSound

/-- A tag stands at its slot position and lies a whole number of segments from the anchor on one timeline (R44). -/
def Stream.TagAt (st : Stream) (i : Nat) (g : Tag) : Prop :=
  i = g.seq.toNat % st.fig.slots ∧
    ∃ a, st.anchor = some a ∧ ∃ n : Int, g.seq = a.seq + BitVec.ofInt 16 n
      ∧ g.origin = a.origin + BitVec.ofInt 32 (n * st.record.shape.segLen)

/-- The tags of a stream are in their canonical form, and each lies where R44 says. -/
structure Stream.TagSound (st : Stream) : Prop where
  rise : keysRise st.tags = true
  placed : ∀ i g, (i, g) ∈ st.tags → st.TagAt i g

/-- Every stream's tags are sound. -/
def State.TagsSound (s : State) : Prop := ∀ k, (s.stream k).TagSound

/-- A path's counts and captures lie in their ranges (R27, R147). -/
structure PathContext.RangeSound (c : PathContext) : Prop where
  blocks : c.blocksSince ≤ 255
  last : c.lastInterval ≤ 65535
  largest : c.largestInterval ≤ 65535

/-- A stream's quantities lie in their ranges (R84, R85, R91 to R93, R96, R152, R153, R155). -/
structure Stream.RangeSound (st : Stream) : Prop where
  tuning : st.record.tuning.inRange = true
  inForce : st.inForce.inRange = true
  closing : st.closing.inRange = true
  smoothed : -1048576 ≤ st.servo.s ∧ st.servo.s ≤ 1048575
  rate : st.servo.r ≤ 4096
  accumulator : st.servo.q ≤ 65535
  lead : -32768 ≤ st.servo.lead ∧ st.servo.lead ≤ 32767
  error : -32767 ≤ st.servo.error ∧ st.servo.error ≤ 32767
  unclamped : st.servo.unclamped ≤ 983040
  quiet : st.quiet ≤ 65535
  holdover : st.holdover ≤ 65535
  tightest : -32768 ≤ st.tightest ∧ st.tightest ≤ 32767
  peak : ∀ v, st.blockPeak = some v → v ≤ 65536
  silent : st.silentRun ≤ 65535
  pathA : st.pathA.RangeSound
  pathB : st.pathB.RangeSound

/-- Every stream's quantities lie in their ranges. -/
def State.RangesSound (s : State) : Prop := ∀ k, (s.stream k).RangeSound

/-- The stream table: every record lies in its ranges (R17), every enabled stream has the figures of its record, with at
least 4 slots (R22, R24), and is played by its record's channel count (R18), no two enabled streams have a page in common
(R23), and no cover entry names one stream as primary and as cover (R113, R114). -/
structure State.TableSound (s : State) : Prop where
  ranges : ∀ k, (s.stream k).record.shape.inRange = true
  figures : ∀ k, (s.stream k).enabled = true →
    (s.stream k).figures = some (s.stream k).record.shape.figures ∧ 4 ≤ (s.stream k).record.shape.slots
  played : ∀ k, (s.stream k).enabled = true → (s.stream k).channels = (s.stream k).record.shape.channels
  cover : ∀ n : Fin 8, s.cover[n].primary ≠ s.cover[n].cover
  pages : ∀ j k, (s.stream j).enabled = true → (s.stream k).enabled = true → j ≠ k →
    (s.stream j).record.shape.overlaps (s.stream k).record.shape = false

/-! ### Route matrix and agent -/

/-- Fade levels lie in 0 to 48 (R133), a slot is in transition only from a driver other than its present one (R136), and a
SWAP waits in the matrix exactly while it is the request in progress (R134, R186), which it is not while the reset line is
asserted (R190). -/
structure State.MatrixSound (s : State) : Prop where
  fade : ∀ j : SlotId, s.matrix.slots[j].fade ≤ 48
  transition : ∀ (j : SlotId) (d : Option Driver),
    s.matrix.slots[j].transition = .departing d → d ≠ driverOf s.matrix.activeBank j
  swap : s.matrix.swapWaiting = s.inProgress.isSome
  released : s.pins.resetLine = true → s.inProgress = none

/-! ### The words of the claims: frames as a sender forms them (spec/12) -/

/-- An Ethernet frame: destination, source, an optional VLAN tag that begins 0x8100, the EtherType, the transport bytes
and the frame check sequence (spec/12, opening). -/
def ethernetFrame (dest source : Mac) (vlan : Option VlanTag) (etherType : EtherType) (transport fcs : List Byte) :
    List Byte :=
  toBytes 6 dest.toNat ++ toBytes 6 source.toNat
    ++ (match vlan with
        | none => []
        | some v => [0x81, 0x00] ++ toBytes 2 (v.priority.toNat * 8192 + v.vid.toNat))
    ++ toBytes 2 etherType.toNat ++ transport ++ fcs

/-- The transport bytes of a management request (spec/12 section 12.1). -/
def Request.transport (r : Request) (reserved : Byte) : List Byte :=
  [2, 1, r.env.unit, r.code, r.object, r.env.index, r.env.count] ++ toBytes 4 r.env.tag.toNat ++ [reserved]
    ++ r.env.data

/-- The transport bytes of an audio segment, with what pads it (spec/12 section 12.1). -/
def segmentTransport (g : Segment) (padding : List Byte) : List Byte :=
  [1, 1, BitVec.ofNat 8 g.stream, BitVec.ofNat 8 g.channels, BitVec.ofNat 8 g.frames] ++ toBytes 2 g.seq.toNat
    ++ toBytes 4 g.origin.toNat ++ g.samples.flatMap (fun v => toBytes 3 v.toNat) ++ padding

/-- The code of an outcome (spec/12 section 12.2). -/
def Result.number : Result → Byte
  | .ok => 0
  | .clamped => 1
  | .busy => 2
  | .prot => 3
  | .badObject => 4
  | .badIndex => 5
  | .badValue => 6
  | .overlap => 7
  | .state => 8

/-- The row of the opcode table that a request is: by its request code and object code, and for RESET by its flag
(spec/12 section 12.2, section 11.4). -/
def Request.command (r : Request) : Instr :=
  match r.code.toNat, r.object.toNat with
  | 1, 1 => .readStream r.env
  | 1, 2 => .readStreamStatus r.env
  | 1, 3 => .readRouteActive r.env
  | 1, 4 => .readRouteStandby r.env
  | 1, 5 => .readCover r.env
  | 1, 6 => .readPattern r.env
  | 1, 7 => .readDevice r.env
  | 1, 8 => .readPortCounters r.env
  | 1, 9 => .readPathCounters r.env
  | 1, 10 => .readMonitors r.env
  | 1, 11 => .readTimebase r.env
  | 2, 1 => .writeStream r.env
  | 2, 4 => .writeRouteStandby r.env
  | 2, 5 => .writeCover r.env
  | 2, 6 => .writePattern r.env
  | 2, 7 => .writeDevice r.env
  | 3, 1 => .enable r.env
  | 4, 1 => .disable r.env
  | 5, 1 => .relock r.env
  | 6, _ => .swap r.object r.env
  | 7, _ => .copy r.object r.env
  | 8, _ => .peekEvents r.object r.env
  | 9, _ => .readEvents r.object r.env
  | 10, 8 => .collectPortCounters r.env
  | 10, 9 => .collectPathCounters r.env
  | 10, 10 => .collectMonitors r.env
  | 11, _ => if r.env.data.head? = some 1 then .resetClearTables r.object r.env else .reset r.object r.env
  | c, _ =>
    if 1 ≤ c ∧ c ≤ 11 then .requestNotApplyingToObject r.code r.object r.env
    else .unknownRequest r.code r.object r.env

/-! ### The words of the claims: events as the manual tells them -/

/-- A house frame handed to every block that acts on one, with the reset line released: the timebase takes the values
given, every stream's work is due, no segment has been accepted in it yet, at a block boundary its boundary work too, the route matrix's event and the bus frame
are due, and the slot values formed before are one frame older (R54, R55, R144). -/
def State.handedFrame (s : State) (tb : Timebase) : State :=
  { s with
    tb := tb,
    streams := s.streams.map fun st =>
      { st with frameDue := true, stepDue := decide (tb.phase = 0), monitorDue := decide (tb.phase = 0),
                peakDue := decide (tb.phase = 0), closing := if tb.phase = 0 then st.inForce else st.closing,
                accepted := false },
    copyDue := decide (tb.phase = 0),
    bus := { s.bus with formed0 := none, formed1 := s.bus.formed0, formed2 := s.bus.formed1, due := true },
    matrix := { s.matrix with due := true } }

/-- A segment that a port hands to the classifier for the stream at a place: the reset line is released (R16), the
segment is well-formed (R7) and admitted (R8). -/
structure State.HandsOver (s : State) (p : Port) (g : Segment) (k : StreamId) : Prop where
  released : s.pins.resetLine = false
  wellFormed : g.wellFormed = true
  names : g.stream = k.val + 1
  enabled : (s.stream k).enabled = true
  included : (s.stream k).record.shape.admission.includes p = true

/-- The segment has the shape of the stream's record (R29). -/
def Stream.Fits (st : Stream) (g : Segment) : Prop :=
  g.channels = st.record.shape.channels ∧ g.frames = st.record.shape.segLen

/-- The stream holds a lock: FILLING, PLAYING or HOLDOVER. -/
def Stream.Locked (st : Stream) : Prop := st.state = .filling ∨ st.state = .playing ∨ st.state = .holdover

/-- What a segment that passes the shape check does to its path beyond its classification: the path's counters, sequence
tracking and interval capture are advanced (R29, R30, R37, R147), and an active condition of the path is cleared in the
monitor unit's record and as PATH_A_DOWN or PATH_B_DOWN of the active alarm set, together, with nothing latched (R151). -/
def State.arrived (s : State) (k : StreamId) (p : Port) (g : Segment) (count : PathCounters → PathCounters) : State :=
  s.modStream k fun st =>
    { (st.modPath p fun c =>
        { PathContext.arrive { c with counters := count c.counters } s.tb.h g.seq with down := false }) with
      alarms :=
        if (st.path p).down then
          match p with
          | .a => { st.alarms with pathADown := false }
          | .b => { st.alarms with pathBDown := false }
        else st.alarms }

/-- A stream relocked, as R73 lists it: STARVED cleared, RELOCKED latched. The next close of the block peak will set the silent
run to 0 (R156). -/
def State.relocked (s : State) (k : StreamId) : State :=
  (s.modStream k fun st =>
    { st with state := .acquire, tags := [], anchor := none, rejectRun := 0, quiet := 0, holdover := 0,
              slipDue := .none,
              servo := { s := 0, r := 0, q := 0, direction := .none, lead := 0, error := 0, unclamped := 0 },
              alarms := { st.alarms with starved := false }, relockOpen := true }).latch .relocked (k.val + 1)

/-- A (stream, path) context after a reset (R27, R160). -/
def freshPath : PathContext :=
  { expected := none, blocksSince := 0, counters := ⟨0, 0, 0, 0, 0, 0, 0, 0⟩, lastArrival := none, lastInterval := 0,
    largestInterval := 0, frozen := false, down := false }

/-- A stream after the reset line or a RESET request without clear-tables: the values that the tables of R21, R27, R77,
R102, R109, R122, R160 and R162 give. -/
def Stream.afterReset (st : Stream) : Stream :=
  { st with
    figures := if st.enabled then st.figures else none, state := if st.enabled then .acquire else .idle,
    playPoint := 0, frameOrigin := 0, newest := 0, anchor := none, fillStart := 0, rejectRun := 0, quiet := 0,
    holdover := 0, slipDue := .none, tags := [],
    servo := { s := 0, r := 0, q := 0, direction := .none, lead := 0, error := 0, unclamped := 0 },
    alarms := ⟨false, false, false, false, false⟩, lastOut := Vector.replicate 16 0, concealed := 0, covered := 0,
    pathA := freshPath, pathB := freshPath, tightest := 32767, blockPeak := none, silentRun := 0, silence := false,
    relockOpen := false }

/-- The default fields of a stream record (R21). -/
def defaultRecord : StreamRecord :=
  { shape := { channels := 2, segLen := 12, basePage := 0, pageCount := 1, holdDepth := 96, admission := .both },
    tuning := { starveTimeout := 20, holdoverLimit := 2000, pathTimeout := 20, fill := .fade, gain := 4, deadband := 2,
                rmax := 1024, watch := none, silenceThreshold := 64, silenceWindow := 5000 } }

/-- The default fields of a route record (R127). That the cut line number is 0 is the model's choice (log 37). -/
def defaultRoute : RouteRecord :=
  { inUse := false, source := .stream, stream := 0, channel := 0, slot := 0, gain := 16384, automute := true,
    enableSource := .own, cutLine := 0, ownEnable := false }

/-- A request that the agent takes and decides: the reset line is released (R190), no request is in progress (R180), and
the part serves it: WRITE, ENABLE, DISABLE, RELOCK, SWAP and COPY sent to the general address, or any request sent to the
part's own unit address (R178). -/
structure State.Takes (s : State) (r : Request) : Prop where
  released : s.pins.resetLine = false
  idle : s.inProgress = none
  served : (r.env.unit = 0 ∧ 2 ≤ r.code.toNat ∧ r.code.toNat ≤ 7) ∨ (r.env.unit ≠ 0 ∧ s.dev.unit = some r.env.unit)

/-- The index and count of a request name `n` records from `first` on, with 1 to 16 of them, in a table that starts at
`lowest` and has `size` records (section 11.4). -/
structure Names (m : Envelope) (lowest size : Nat) : Prop where
  least : 1 ≤ m.count.toNat
  most : m.count.toNat ≤ 16
  from_ : lowest ≤ m.index.toNat
  upTo : m.index.toNat + m.count.toNat ≤ lowest + size

/-- The fill method's value of a sample of the last output (R111, R112). -/
def fillOf (f : FillMethod) (v : Sample) : Sample :=
  match f with
  | .zero => 0
  | .hold => v
  | .fade => if v.toInt.natAbs < 256 then 0 else BitVec.ofInt 24 (v.toInt - v.toInt.tdiv 256)

/-- The concealment frame: per channel of the stream the cover's value where the cover frame has that channel, and
otherwise the fill method's value of the last output (R110). -/
def Stream.fillIn (st : Stream) (cover : Option (Nat × Frame)) : Frame :=
  Vector.ofFn fun c : Fin 16 =>
    if c.val < st.record.shape.channels then
      match cover with
      | some (n, f) => if c.val < n then f[c] else fillOf st.inForce.fill st.lastOut[c]
      | none => fillOf st.inForce.fill st.lastOut[c]
    else 0

/-- The output of a stream that plays nothing of its own: cover values, and 0 elsewhere (R118). -/
def Stream.coverAlone (st : Stream) (cover : Option (Nat × Frame)) : Frame :=
  Vector.ofFn fun c : Fin 16 =>
    if c.val < st.record.shape.channels then
      match cover with
      | some (n, f) => if c.val < n then f[c] else 0
      | none => 0
    else 0

/-- What the cover table supplies to a stream in this house frame: the lowest-numbered entry in use that names the stream as
primary applies (R115); its cover stream supplies if it is in PLAYING or HOLDOVER (R116) and its frame is present at P, before
its frame stage, or at the frame origin, after it (R117). With the frame goes the cover stream's channel count. -/
def State.coverSupplied (s : State) (k : StreamId) : Option (Nat × Frame) :=
  match (List.finRange 8).find? fun n => s.cover[n].inUse && decide (s.cover[n].primary = k) with
  | none => none
  | some n =>
    let c := s.cover[n].cover
    let st := s.stream c
    if st.state = .playing ∨ st.state = .holdover then
      match s.frameAt c (if st.frameDue then st.playPoint else st.frameOrigin) with
      | none => none
      | some f => some (st.record.shape.channels, f)
    else none

/-- The average of two frames, channel by channel, with the fraction removed toward zero (R103, R104). -/
def Stream.averaged (st : Stream) (a b : Frame) : Frame :=
  Vector.ofFn fun c : Fin 16 =>
    if c.val < st.record.shape.channels then BitVec.ofInt 24 ((a[c].toInt + b[c].toInt).tdiv 2) else 0

/-- The end of a frame stage: the close of the block peak, if it is still open (R83, R154), and then the frame's own sample:
with a watch channel w in force, a frame formed in PLAYING or HOLDOVER raises the block peak to floor(abs(v) / 128), where v
is channel w of the frame, or 0 with w at or beyond the channel count; an empty peak counts as 0 (R153). -/
def State.detects (s : State) (k : StreamId) (formedIn : PlayState) (out : Frame) : State :=
  (s.closePeak k).modStream k fun st =>
    { st with
      blockPeak := match st.inForce.watch with
        | none => st.blockPeak
        | some w =>
          if formedIn = .playing ∨ formedIn = .holdover then
            let v : Sample := if w < st.record.shape.channels then (out[w]?).getD 0 else 0
            some (max (st.blockPeak.getD 0) (v.toInt.natAbs / 128))
          else st.blockPeak }

/-- The monitor unit's boundary work on one path, less the raise: the advance, the condition, and the test of the gap
(R148, R150). -/
def Stream.pathAfterBoundary (st : Stream) (p : Port) (h : HouseCount) : PathContext :=
  let c := st.path p
  let n := min (c.blocksSince + 1) 255
  let d : PathContext :=
    if st.record.shape.admission.includes p then
      { c with blocksSince := n, down := c.down || decide (st.closing.pathTimeout ≤ n) }
    else c
  match c.lastArrival with
  | none => d
  | some a =>
    if c.frozen = false ∧ 65535 ≤ (h - a).toNat then { d with lastInterval := 65535, largestInterval := 65535, frozen := true }
    else d

/-- The advance of a boundary declares the path down (R150). -/
def Stream.pathFails (st : Stream) (p : Port) : Bool :=
  st.record.shape.admission.includes p && decide (st.closing.pathTimeout ≤ min ((st.path p).blocksSince + 1) 255)
    && !(st.path p).down

/-- The close of the block peak raises SILENCE (R155), and it is not the first close after a relock (R156; log 39). -/
def Stream.FallsSilent (st : Stream) : Prop :=
  (st.state = .playing ∨ st.state = .holdover) ∧ st.closing.watch ≠ none ∧ st.relockOpen = false ∧ st.silence = false
    ∧ st.closing.silenceWindow ≤ min (st.silentRun + 1) 65535
    ∧ ∃ v, st.blockPeak = some v ∧ v < st.closing.silenceThreshold

/-- The driver's identity that a bank gives a slot: the stream and channel, or the pattern, and the gain of the
lowest-numbered route in use that names the slot; a PATTERN source has no stream and no channel (R123, R128, R136). -/
def drivenBy (b : Bank) (j : SlotId) : Option Driver :=
  match (List.finRange 256).find? fun n => b[n].inUse && decide (b[n].slot = j) with
  | none => none
  | some n =>
    some { source := if b[n].source = .pattern then .pattern else .stream b[n].stream b[n].channel, gain := b[n].gain }

/-! ### The words of the claims: records (spec/12 section 12.3) -/

/-- A flag's byte. -/
def flagOf (b : Bool) : Byte := if b then 1 else 0

/-- A signed quantity in two bytes, two's complement. -/
def signed16 (v : Int) : List Byte := toBytes 2 (BitVec.ofInt 16 v).toNat

/-- A set of stream alarm kinds: bit 0 STARVED, 1 SERVO_LIMIT, 2 PATH_A_DOWN, 3 PATH_B_DOWN, 4 SILENCE. -/
def alarmSet (a : AlarmFlags) : Byte :=
  BitVec.ofNat 8 ((if a.starved then 1 else 0) + (if a.servoLimit then 2 else 0) + (if a.pathADown then 4 else 0)
    + (if a.pathBDown then 8 else 0) + (if a.silence then 16 else 0))

/-- The code of slip due and of the servo's direction. -/
def slipCode (x : Slip) : Byte := if x = .none then 0 else if x = .drop then 1 else 2

/-- The 24 bytes of a stream record (R17). -/
def Stream.streamRecord (st : Stream) : List Byte :=
  let sh := st.record.shape
  let t := st.record.tuning
  [flagOf st.enabled] ++ toBytes 1 sh.channels ++ toBytes 1 sh.segLen ++ toBytes 2 sh.basePage
    ++ toBytes 2 sh.pageCount ++ toBytes 2 sh.holdDepth
    ++ ([if sh.admission = .a then 1 else if sh.admission = .b then 2 else 3] : List Byte)
    ++ toBytes 1 t.starveTimeout ++ toBytes 2 t.holdoverLimit ++ toBytes 1 t.pathTimeout
    ++ ([if t.fill = .zero then 0 else if t.fill = .hold then 1 else 2] : List Byte) ++ toBytes 1 t.gain ++ toBytes 1 t.deadband
    ++ toBytes 2 t.rmax
    ++ toBytes 1 (match t.watch with
        | none => 255
        | some w => w)
    ++ toBytes 2 t.silenceThreshold ++ toBytes 2 t.silenceWindow

/-- The STREAM_STATUS record: the fields of R89, the figures, the servo values of R108 and the alarms of R163, in the
model's order of these rules (log 17). -/
def Stream.statusRecord (st : Stream) (mask : AlarmFlags) : List Byte :=
  let f : Figures := st.figures.getD ⟨0, 0, 0⟩
  let a := st.alarms
  ([if st.state = .idle then 0 else if st.state = .acquire then 1 else if st.state = .filling then 2
    else if st.state = .playing then 3 else 4] : List Byte)
    ++ toBytes 4 st.playPoint.toNat ++ toBytes 4 st.frameOrigin.toNat ++ toBytes 4 st.newest.toNat
    ++ toBytes 4 st.fillStart.toNat
    ++ (match st.anchor with
        | none => [0, 0, 0, 0, 0, 0, 0]
        | some g => [1] ++ toBytes 4 g.origin.toNat ++ toBytes 2 g.seq.toNat)
    ++ toBytes 2 st.rejectRun ++ toBytes 2 st.quiet ++ toBytes 2 st.holdover ++ [slipCode st.slipDue]
    ++ toBytes 2 f.slots ++ toBytes 4 f.capacity ++ toBytes 2 f.effH
    ++ toBytes 4 (BitVec.ofInt 32 st.servo.s).toNat ++ toBytes 2 st.servo.r ++ toBytes 2 st.servo.q
    ++ [slipCode st.servo.direction] ++ signed16 st.servo.lead ++ signed16 st.servo.error
    ++ toBytes 4 st.servo.unclamped ++ toBytes 4 (min st.inForce.rmax 4096) ++ [flagOf a.servoLimit] ++ [alarmSet a]
    ++ [flagOf ((a.starved && !mask.starved) || (a.servoLimit && !mask.servoLimit) || (a.pathADown && !mask.pathADown)
          || (a.pathBDown && !mask.pathBDown) || (a.silence && !mask.silence))]

/-- The 70 bytes of a PATH_COUNTERS record: for path A and then path B the eight counters in the order of R27, and E
(R37). -/
def Stream.pathCountersRecord (st : Stream) : List Byte :=
  [st.pathA, st.pathB].flatMap fun c =>
    let n := c.counters
    [n.received, n.accepted, n.duplicate, n.late, n.early, n.mismatch, n.lost, n.outOfOrder].flatMap
        (fun v => toBytes 4 v.toNat)
      ++ match c.expected with
         | none => [0, 0, 0]
         | some e => [1] ++ toBytes 2 e.toNat

/-- The MONITORS record, in the order of R158. -/
def Stream.monitorsRecord (st : Stream) : List Byte :=
  ([st.pathA, st.pathB].flatMap fun c =>
      toBytes 2 c.lastInterval ++ toBytes 2 c.largestInterval ++ [flagOf c.frozen] ++ toBytes 2 c.blocksSince
        ++ [flagOf c.down])
    ++ signed16 st.tightest ++ toBytes 2 st.silentRun ++ [flagOf st.silence] ++ toBytes 4 st.concealed.toNat
    ++ toBytes 4 st.covered.toNat

/-- The PORT_COUNTERS record: the eight counters in the order of section 1.6, and the link state, whose code the manual
leaves open (R14; log 13). -/
def LinkPort.countersRecord (l : LinkPort) : List Byte :=
  let c := l.counters
  [c.framesReceived, c.badFcs, c.foreign, c.malformed, c.unadmitted, c.requestsAccepted, c.repliesSent,
    c.alertsSent].flatMap (fun v => toBytes 4 v.toNat) ++ [Config.linkStateCode l.linkUp]

/-- The TIMEBASE record, in the order of section 4.3. -/
def State.timebaseRecord (s : State) : List Byte :=
  toBytes 4 s.tb.h.toNat ++ toBytes 2 s.tb.phase.val ++ [if s.tb.ref = .freeRun then 0 else 1]
    ++ toBytes 2 s.tb.missedRun ++ toBytes 2 s.tb.goodRun ++ toBytes 2 s.tb.lastMark.val ++ [flagOf s.dev.rephase]

/-- The 3 bytes of a cover entry (R113). -/
def CoverEntry.coverRecord (e : CoverEntry) : List Byte :=
  [flagOf e.inUse] ++ Machine.toBytes 1 (e.primary.val + 1) ++ Machine.toBytes 1 (e.cover.val + 1)

/-- The 11 bytes of a route record (R123). -/
def RouteRecord.routeRecord (r : RouteRecord) : List Byte :=
  [flagOf r.inUse, if r.source = .stream then 0 else 1] ++ Machine.toBytes 1 (r.stream.val + 1)
    ++ Machine.toBytes 1 r.channel.val ++ Machine.toBytes 1 r.slot.val ++ Machine.toBytes 2 r.gain.val
    ++ [flagOf r.automute, if r.enableSource = .own then 0 else 1] ++ Machine.toBytes 1 r.cutLine.val ++ [flagOf r.ownEnable]

/-- The five status bytes of a route of the active bank: its state, 0 UNUSED, 1 DRIVING, 2 SHADOWED; for a DRIVING route
whether its slot was open, and with a STREAM source whether automute held, at the last event (log 20); the fade level of its
slot; and whether the slot is in transition (R146). -/
def State.routeStatus (s : State) (n : RouteId) : List Byte :=
  let b := s.matrix.activeBank
  let slot := s.matrix.slots[b[n].slot]
  let shadowed := (List.finRange 256).any fun m => decide (m < n) && b[m].inUse && decide (b[m].slot = b[n].slot)
  let drives := b[n].inUse && !shadowed
  [if b[n].inUse = false then 0 else if shadowed then 2 else 1, flagOf (drives && slot.open_),
    flagOf (drives && decide (b[n].source = .stream) && slot.automuted)]
    ++ toBytes 1 slot.fade ++ [flagOf (decide (slot.transition ≠ .none))]

/-- The 28 bytes of the DEVICE record (R187). -/
def State.deviceRecord (s : State) : List Byte :=
  [s.dev.unit.getD 0, s.dev.strap] ++ toBytes 6 s.portA.station.toNat
    ++ toBytes 6 s.portB.station.toNat ++ toBytes 2 s.portA.etherType.toNat ++ toBytes 2 s.portB.etherType.toNat
    ++ [flagOf s.dev.rephase, flagOf s.dev.patternHold, alarmSet s.dev.muteMask] ++ toBytes 2 s.dev.eventEnable.toNat
    ++ toBytes 2 s.dev.alertEnable.toNat ++ [0, 0, 0]

end Sys2Proof.Machine
end

