-- ==== Sys2Proof/Certificates/Slice0/Obligations.lean ====
section
/-! DEFINITION. The statements for the provers. The numbers R<n> are the manual's rules; where a statement rests on a
choice of the model, its docstring names the log entry. -/

open Sys2Proof Sys2Proof.Machine

/-- A step takes the command at the front of the queue, and an empty queue idles. (section 6.1 Events, log 2) -/
def Obligations.FrontCommandIsTaken : Prop :=
  (∀ (c : Instr) (rest : List Instr) (s : State), s.pending = c :: rest → step s = exec c { s with pending := rest })
    ∧ ∀ s : State, s.pending = [] → step s = .next s

/-- Every command answers a next state in every state, and touches the queue of no other command. (section 6.1 Events,
R28, R78, R130, R177, log 4) -/
def Obligations.EveryCommandAnswersAndKeepsTheQueue : Prop :=
  ∀ (i : Instr) (s : State), ∃ t, exec i s = .next t ∧ t.pending = s.pending

/-- The state right after power-on meets every invariant of the model. (R12, R42, R44, R65, R77, R102, R127, R160,
R176, R1, R2) -/
def Obligations.PowerOnStateMeetsEveryInvariant : Prop :=
  State.reset.MemorySound ∧ State.reset.QueuesSound ∧ State.reset.PortsSound ∧ State.reset.TimebaseSound ∧ State.reset.EventsSound
    ∧ State.reset.LocksSound ∧ State.reset.TagsSound ∧ State.reset.RangesSound ∧ State.reset.TableSound
    ∧ State.reset.MatrixSound

/-- Every step keeps sample memory in its canonical form. (R42, R43, R45, log 12) -/
def Obligations.StepKeepsSampleMemoryCanonical : Prop :=
  ∀ s t : State, s.MemorySound → step s = .next t → t.MemorySound

/-- Every step keeps both transmit queues within their bound and empty where nothing may be sent, and the settings of
both ports legal. (R3, R12, R16, R1, R2) -/
def Obligations.StepKeepsTransmitQueuesBounded : Prop :=
  (∀ s t : State, s.QueuesSound → step s = .next t → t.QueuesSound)
    ∧ ∀ s t : State, s.PortsSound → step s = .next t → t.PortsSound

/-- Every step keeps the runs of the timebase below their limits and REF_LOST within FREE_RUN. (R56, R57, R58, R59,
R66, R54, R65, log 7) -/
def Obligations.StepKeepsTimebaseRunsBounded : Prop :=
  ∀ s t : State, s.TimebaseSound → step s = .next t → t.TimebaseSound

/-- Every step keeps the event set a set of sound pairs in priority order, of at most 452 pairs. (R166, R167, R169,
R170, section 10.3) -/
def Obligations.StepKeepsEventSetOrdered : Prop :=
  (∀ s t : State, s.EventsSound → step s = .next t → t.EventsSound)
    ∧ ∀ s : State, s.EventsSound → s.ev.events.length ≤ 452

/-- Every step keeps state, lock, alarms and tags of every stream in agreement. (R36, R44, R47, R48, R81, R87, R162)
-/
def Obligations.StepKeepsLocksAndTags : Prop :=
  ∀ s t : State, s.LocksSound → s.TagsSound → step s = .next t → t.LocksSound ∧ t.TagsSound

/-- Every step keeps every quantity of every stream in the range the manual gives it. (R17, R84, R85, R91, R92, R93,
R96, R147, R150, R152, R153, R155) -/
def Obligations.StepKeepsStreamQuantitiesInRange : Prop :=
  ∀ s t : State, s.RangesSound → step s = .next t → t.RangesSound

/-- Every step keeps records in range, figures and channel count fixed, enabled streams on separate pages and cover
entries between two streams. (R17, R18, R22, R23, R24, R25, R113, R114, log 35) -/
def Obligations.StepKeepsEnabledStreamsApart : Prop :=
  ∀ s t : State, s.TableSound → step s = .next t → t.TableSound

/-- Every step keeps fade levels, transitions and the SWAP in progress in agreement. (R133, R134, R136, R138, R186,
R190) -/
def Obligations.StepKeepsMatrixAndSwapInAgreement : Prop :=
  ∀ s t : State, s.MatrixSound → step s = .next t → t.MatrixSound

/-- Stream records, route records, cover entries and pattern entries are read by WRITE as READ returns them. (R17,
R123, R113, R114, R141, R192, section 12.3) -/
def Obligations.TableRecordsReadBack : Prop :=
  (∀ st : Stream, st.record.inRange = true →
    st.streamRecord.length = 24 ∧ readStreamRecord st.streamRecord = some st.record)
    ∧ (∀ r : RouteRecord, r.routeRecord.length = 11 ∧ readRouteRecord r.routeRecord = some r)
    ∧ (∀ e : CoverEntry, e.primary ≠ e.cover → e.coverRecord.length = 3 ∧ readCoverEntry e.coverRecord = some e)
    ∧ ∀ v : Sample, readPatternEntry (toBytes 3 v.toNat) = some v

/-- The 28 bytes of the DEVICE record, written back, carry the settings the part holds. (R2, R187, R192, section 12.3)
-/
def Obligations.DeviceRecordReadsBack : Prop :=
  ∀ (s : State) (u : Byte), s.dev.unit = some u → u ≠ 0 → u ≠ 255 →
    (∀ p : Port, (s.port p).station.getLsbD 40 = false ∧ (s.port p).station ≠ 0
      ∧ 0x0600 ≤ (s.port p).etherType.toNat ∧ (s.port p).etherType ≠ 0x8100) →
    s.deviceRecord.length = 28
      ∧ readDeviceWrite s.deviceRecord
        = some { unit := u, stationA := s.portA.station, stationB := s.portB.station,
                 etherTypeA := s.portA.etherType, etherTypeB := s.portB.etherType, rephase := s.dev.rephase,
                 patternHold := s.dev.patternHold, muteMask := s.dev.muteMask, eventEnable := s.dev.eventEnable,
                 alertEnable := s.dev.alertEnable }

/-- A frame that carries a request, laid out as chapter 12 gives it, runs that request's row of the table. (R4, R5,
R6, R10, section 12.1, section 12.2, log 19) -/
def Obligations.RequestFrameRunsItsCommand : Prop :=
  ∀ (s : State) (p : Port) (f : RxFrame) (dest : Mac) (r : Request) (reserved : Byte) (fcs : List Byte),
    s.listens p = true → r.env.port = p →
    (dest = (s.port p).station ∨ dest.getLsbD 40 = true) →
    (r.env.vlan = none → (s.port p).etherType ≠ 0x8100) →
    fcs.length = 4 → f.fcsOk = true → 64 ≤ f.bytes.length → f.bytes.length ≤ 1536 →
    f.bytes = ethernetFrame dest r.env.source r.env.vlan (s.port p).etherType (r.transport reserved) fcs →
    exec (.frameReception p f) s
      = exec r.command (s.countPort p fun c => { c with framesReceived := Counter.inc c.framesReceived })

/-- A frame that carries an admitted segment, laid out as chapter 12 gives it, hands the classifier that segment. (R4,
R5, R6, R7, R8, R9, section 12.1) -/
def Obligations.SegmentFrameReachesTheClassifier : Prop :=
  ∀ (s : State) (p : Port) (f : RxFrame) (dest source : Mac) (vlan : Option VlanTag) (g : Segment) (k : StreamId)
    (padding fcs : List Byte),
    s.listens p = true → s.HandsOver p g k →
    (dest = (s.port p).station ∨ dest.getLsbD 40 = true) →
    (vlan = none → (s.port p).etherType ≠ 0x8100) →
    fcs.length = 4 → f.fcsOk = true → 64 ≤ f.bytes.length → f.bytes.length ≤ 1536 →
    f.bytes = ethernetFrame dest source vlan (s.port p).etherType (segmentTransport g padding) fcs →
    exec (.frameReception p f) s
      = exec (.audioSegment p g) (s.countPort p fun c => { c with framesReceived := Counter.inc c.framesReceived })

/-- A received frame that fails a test of the port advances that test's counters and changes nothing else. (R3, R4,
R5, R6, R7, R8, R16, log 25) -/
def Obligations.FrameThatFailsATestIsCountedAndDropped : Prop :=
  ∀ (s : State) (p : Port) (f : RxFrame),
    (s.listens p = false → exec (.frameReception p f) s = .next s)
    ∧ (s.listens p = true →
      let q := splitFrame f.bytes
      let kind := field q.transport 0 1
      let g := readSegment q.transport
      let passes := f.fcsOk = true ∧ 64 ≤ f.bytes.length ∧ f.bytes.length ≤ 1536
      let meant := (q.dest = (s.port p).station ∨ q.dest.getLsbD 40 = true) ∧ q.etherType = (s.port p).etherType
        ∧ field q.transport 1 1 = 1
      let fields := 1 ≤ g.stream ∧ g.stream ≤ 64 ∧ 1 ≤ g.channels ∧ g.channels ≤ 16
        ∧ (g.frames = 6 ∨ g.frames = 12 ∨ g.frames = 24 ∨ g.frames = 48) ∧ g.channels * g.frames ≤ 480
      let whole := 11 + g.channels * g.frames * 3 ≤ q.transport.length
      (¬ passes → exec (.frameReception p f) s
        = .next (s.countPort p fun c => { c with badFcs := Counter.inc c.badFcs }))
      ∧ (passes → ¬ (meant ∧ (kind = 1 ∨ kind = 2)) → exec (.frameReception p f) s
        = .next (s.countPort p fun c =>
            { c with framesReceived := Counter.inc c.framesReceived, foreign := Counter.inc c.foreign }))
      ∧ (passes → meant → kind = 1 → ¬ (fields ∧ whole) → exec (.frameReception p f) s
        = .next (s.countPort p fun c =>
            { c with framesReceived := Counter.inc c.framesReceived, malformed := Counter.inc c.malformed }))
      ∧ (passes → meant → kind = 1 → fields → whole →
        (∀ k : StreamId, g.stream = k.val + 1 →
          ¬ ((s.stream k).enabled = true ∧ (s.stream k).record.shape.admission.includes p = true)) →
        exec (.frameReception p f) s
        = .next (s.countPort p fun c =>
            { c with framesReceived := Counter.inc c.framesReceived, unadmitted := Counter.inc c.unadmitted })))

/-- The transmit queue holds 4 frames, loses a frame handed to a full queue, and completes the oldest first. (R3, R12,
R16, log 4) -/
def Obligations.TransmitQueueIsFirstInFirstOut : Prop :=
  (∀ (l : LinkPort) (f : TxFrame),
    (l.linkUp = true ∧ l.queue.length < 4 → l.hand f = { l with queue := l.queue ++ [f] })
    ∧ (¬ (l.linkUp = true ∧ l.queue.length < 4) → l.hand f = l))
  ∧ ∀ (s : State) (p : Port),
    (∀ f rest, s.listens p = true → (s.port p).queue = f :: rest →
      exec (.transmissionComplete p) s = .next (s.modPort p fun l =>
        { l with
          queue := rest,
          counters := match f.kind with
            | .reply => { l.counters with repliesSent := Counter.inc l.counters.repliesSent }
            | .notice => { l.counters with alertsSent := Counter.inc l.counters.alertsSent } }))
    ∧ ((s.port p).queue = [] ∨ s.listens p = false → exec (.transmissionComplete p) s = .next s)

/-- A change of link state, cut line or protect line is held, and a link that goes DOWN loses its queue. (R3, R131,
R181) -/
def Obligations.InputLinesAndLinksAreHeld : Prop :=
  ∀ s : State,
    (∀ (p : Port) (up : Bool), exec (.linkStateChange p up) s = .next (s.modPort p fun l =>
      { l with linkUp := up, queue := if up then l.queue else [] }))
    ∧ (∀ (line : Fin 8) (asserted : Bool), ∃ cut : BitVec 8,
      exec (.cutLineChange line asserted) s
        = .next { s with pins := { s.pins with cut := cut },
                         matrix := { s.matrix with cutHeld := if s.pins.resetLine then s.matrix.cutHeld else cut } }
      ∧ ∀ n : Fin 8, cut.getLsbD n = if n = line then asserted else s.pins.cut.getLsbD n)
    ∧ ∀ asserted : Bool,
      exec (.protectLineChange asserted) s = .next { s with pins := { s.pins with protect := asserted } }

/-- POWER_ON gives every piece of state its power-on value, with the unit address from the straps. (R1, R15, R21, R65,
R77, R113, R127, R143, R160, R176, R191, logs 11, 12, 20, 23, 35, 37) -/
def Obligations.PowerOnGivesThePowerOnValues : Prop :=
  ∀ (v : Byte) (s : State), ∃ t, exec (.powerOn v) s = .next t
    ∧ t.tb = { h := 0, phase := 0, ref := .freeRun, missedRun := 0, goodRun := 0, lastMark := 0, spanOpen := false,
               firstDue := true }
    ∧ t.portA = { station := 0x024E4100#32 ++ v ++ 0x0A#8, etherType := 0x88B5, linkUp := s.portA.linkUp, queue := [],
                  counters := ⟨0, 0, 0, 0, 0, 0, 0, 0⟩ }
    ∧ t.portB = { station := 0x024E4100#32 ++ v ++ 0x0B#8, etherType := 0x88B5, linkUp := s.portB.linkUp, queue := [],
                  counters := ⟨0, 0, 0, 0, 0, 0, 0, 0⟩ }
    ∧ t.dev = { unit := if v = 0 ∨ v = 255 then none else some v, strap := v, rephase := true, patternHold := false,
                muteMask := ⟨false, false, true, true, true⟩, eventEnable := 0x7FF, alertEnable := 0x7FF }
    ∧ (∀ k, t.stream k =
        { enabled := false, record := defaultRecord, figures := none, channels := 2,
          inForce := defaultRecord.tuning,
          closing := defaultRecord.tuning, state := .idle, playPoint := 0, frameOrigin := 0, newest := 0,
          anchor := none, fillStart := 0, rejectRun := 0, accepted := false, quiet := 0, holdover := 0, slipDue := .none, tags := [],
          servo := { s := 0, r := 0, q := 0, direction := .none, lead := 0, error := 0, unclamped := 0 },
          alarms := ⟨false, false, false, false, false⟩, lastOut := Vector.replicate 16 0,
          handed := Vector.replicate 16 0, concealed := 0, covered := 0, pathA := freshPath, pathB := freshPath,
          tightest := 32767, blockPeak := none, silentRun := 0, silence := false, relockOpen := false,
          frameDue := false, stepDue := false,
          monitorDue := false, peakDue := false })
    ∧ t.copyDue = false
    ∧ t.mem = [] ∧ t.cover = Vector.replicate 8 { inUse := false, primary := 0, cover := 1 }
    ∧ t.matrix = { bank0 := Vector.replicate 256 defaultRoute, bank1 := Vector.replicate 256 defaultRoute,
                   active := .bank0, swapWaiting := false,
                   slots := Vector.replicate 256
                     { fade := 0, transition := .none, open_ := false, automuted := false },
                   live := Vector.replicate 48 0, shadow := Vector.replicate 48 0, cutHeld := s.pins.cut, due := false }
    ∧ t.bus = { formed0 := none, formed1 := none, formed2 := none, sent := Vector.replicate 8 (Vector.replicate 32 0), due := false }
    ∧ t.ev = { refLost := false, events := [], alertPending := false, alertDest := none }
    ∧ t.inProgress = none ∧ t.pins = s.pins ∧ t.pending = s.pending

/-- Assertion of the reset line gives every block its reset values and keeps the tables; release reads the cut lines.
(R16, R21, R66, R77, R102, R131, R138, R144, R160, R176, R190, logs 4, 20, 21, 22, 27) -/
def Obligations.ResetLineClearsAndReleases : Prop :=
  ∀ s : State,
    (s.pins.resetLine = false → ∃ t, exec .resetLineAssert s = .next t
      ∧ t.tb = { s.tb with ref := .freeRun, missedRun := 0, goodRun := 0, spanOpen := false }
      ∧ t.portA = { s.portA with queue := [], counters := ⟨0, 0, 0, 0, 0, 0, 0, 0⟩ }
      ∧ t.portB = { s.portB with queue := [], counters := ⟨0, 0, 0, 0, 0, 0, 0, 0⟩ }
      ∧ (∀ k, t.stream k = { (s.stream k).afterReset with
          frameDue := false, stepDue := false, monitorDue := false, peakDue := false })
      ∧ t.copyDue = false
      ∧ t.matrix = { s.matrix with
          slots := s.matrix.slots.map fun j => { j with fade := 0, transition := .none },
          swapWaiting := false, due := false }
      ∧ t.bus = { s.bus with formed0 := none, formed1 := none, formed2 := none }
      ∧ t.ev = { refLost := false, events := [], alertPending := false, alertDest := none }
      ∧ t.inProgress = none ∧ t.pins = { s.pins with resetLine := true }
      ∧ t.dev = s.dev ∧ t.mem = s.mem ∧ t.cover = s.cover ∧ t.epoch = s.epoch ∧ t.pending = s.pending)
    ∧ (s.pins.resetLine = true → exec .resetLineAssert s = .next s
      ∧ exec .resetLineRelease s
        = .next { s with pins := { s.pins with resetLine := false }, matrix := { s.matrix with cutHeld := s.pins.cut } })
    ∧ (s.pins.resetLine = false → exec .resetLineRelease s = .next s)

/-- A segment that passes the shape check updates its path's sequence tracking and arrival intervals. (R27, R29, R30,
R147, R37, section 6.2) -/
def Obligations.PathArrivalIsTracked : Prop :=
  ∀ (c : PathContext) (h : HouseCount) (q : Seq),
    let t := c.arrive h q
    t.blocksSince = 0 ∧ t.lastArrival = some h ∧ t.down = c.down
    ∧ (c.expected = none → t.expected = some (q + 1) ∧ t.counters = c.counters)
    ∧ (∀ e, c.expected = some e →
        (0 < (q - e).toInt → t.expected = some (q + 1)
          ∧ t.counters = { c.counters with lost := Counter.add c.counters.lost (q - e).toInt.toNat })
        ∧ ((q - e).toInt = 0 → t.expected = some (q + 1) ∧ t.counters = c.counters)
        ∧ ((q - e).toInt < 0 → t.expected = some e
          ∧ t.counters = { c.counters with outOfOrder := Counter.inc c.counters.outOfOrder }))
    ∧ (c.lastArrival = none ∨ c.frozen = true →
        t.lastInterval = c.lastInterval ∧ t.largestInterval = c.largestInterval ∧ t.frozen = c.frozen)
    ∧ (∀ a, c.lastArrival = some a → c.frozen = false →
        t.lastInterval = min (h - a).toNat 65535 ∧ t.largestInterval = max c.largestInterval t.lastInterval
        ∧ (t.frozen = true ↔ 65535 ≤ (h - a).toNat))
    ∧ ∀ (v : Counter) (n : Nat),
      (Counter.add v n).toNat = min (v.toNat + n) 4294967295 ∧ Counter.inc v = Counter.add v 1

/-- A segment that is MISMATCH, LATE, EARLY or DUPLICATE is counted on its path and stores nothing. (R29, R32, R33,
R34, R36, R37, R151) -/
def Obligations.SegmentNotStoredOnlyCounts : Prop :=
  ∀ (s : State) (p : Port) (g : Segment) (k : StreamId), s.HandsOver p g k →
    let st := s.stream k
    let reach : Int := (g.origin + BitVec.ofNat 32 st.record.shape.segLen - st.playPoint).toInt
    let aligned := ∀ a, st.anchor = some a →
      (g.origin - a.origin).toInt = (g.seq - a.seq).toInt * st.record.shape.segLen
    let held := lookupKey st.tags (g.seq.toNat % st.fig.slots) = some ⟨g.seq, g.origin⟩
    (¬ st.Fits g → st.state = .acquire →
      exec (.audioSegment p g) s = .next (s.modStream k fun t => t.modPath p fun c =>
        { c with counters := { c.counters with received := Counter.inc c.counters.received,
                                               mismatch := Counter.inc c.counters.mismatch } }))
    ∧ (¬ st.Fits g → st.Locked → st.rejectRun + 1 < 16 →
      exec (.audioSegment p g) s = .next ((s.modStream k fun t => t.modPath p fun c =>
        { c with counters := { c.counters with received := Counter.inc c.counters.received,
                                               mismatch := Counter.inc c.counters.mismatch } }).modStream k
          fun t => { t with rejectRun := t.rejectRun + 1 }))
    ∧ (st.Fits g → st.Locked → ¬ aligned → st.rejectRun + 1 < 16 →
      exec (.audioSegment p g) s = .next ((s.arrived k p g fun n =>
        { n with received := Counter.inc n.received, mismatch := Counter.inc n.mismatch }).modStream k
          fun t => { t with rejectRun := t.rejectRun + 1 }))
    ∧ (st.Fits g → st.Locked → aligned → reach ≤ 0 → st.rejectRun + 1 < 16 →
      exec (.audioSegment p g) s = .next ((s.arrived k p g fun n =>
        { n with received := Counter.inc n.received, late := Counter.inc n.late }).modStream k
          fun t => { t with rejectRun := t.rejectRun + 1 }))
    ∧ (st.Fits g → st.Locked → aligned → 0 < reach → (st.fig.capacity : Int) < reach → st.rejectRun + 1 < 16 →
      exec (.audioSegment p g) s = .next ((s.arrived k p g fun n =>
        { n with received := Counter.inc n.received, early := Counter.inc n.early }).modStream k
          fun t => { t with rejectRun := t.rejectRun + 1 }))
    ∧ (st.Fits g → st.Locked → aligned → 0 < reach → reach ≤ (st.fig.capacity : Int) → held →
      exec (.audioSegment p g) s = .next (s.arrived k p g fun n =>
        { n with received := Counter.inc n.received, duplicate := Counter.inc n.duplicate }))

/-- In ACQUIRE the first segment of the right shape is stored and sets the anchor, N, P and t0. (R31, R45, R68, R152,
R28, R151, log 34) -/
def Obligations.FirstSegmentStartsTheLock : Prop :=
  ∀ (s : State) (p : Port) (g : Segment) (k : StreamId), s.HandsOver p g k →
    let st := s.stream k
    let i := g.seq.toNat % st.fig.slots
    st.Fits g → st.state = .acquire →
    exec (.audioSegment p g) s = .next
      { (s.arrived k p g fun n => { n with received := Counter.inc n.received, accepted := Counter.inc n.accepted }).modStream k
          fun t => { t with
            tags := insertKey t.tags i ⟨g.seq, g.origin⟩, anchor := some ⟨g.seq, g.origin⟩,
            newest := g.origin + BitVec.ofNat 32 st.record.shape.segLen,
            playPoint := g.origin - BitVec.ofNat 32 st.fig.effH, fillStart := g.origin, rejectRun := 0,
            state := .filling, accepted := true, quiet := 0, holdover := 0, slipDue := .none,
            tightest := min t.tightest (max (-32768) (min 32767 (st.fig.effH : Int))) } with
        mem := writeWords s.mem (wordAddress st.record.shape i 0) g.samples }

/-- A wanted segment on the timeline is stored, moves the anchor and N, and ends a holdover. (R35, R45, R71, R84,
R152, R151, R40, log 34) -/
def Obligations.LaterSegmentIsAccepted : Prop :=
  ∀ (s : State) (p : Port) (g : Segment) (k : StreamId), s.HandsOver p g k →
    let st := s.stream k
    let i := g.seq.toNat % st.fig.slots
    let past : Origin := g.origin + BitVec.ofNat 32 st.record.shape.segLen
    st.Fits g → st.Locked →
    (∀ a, st.anchor = some a → (g.origin - a.origin).toInt = (g.seq - a.seq).toInt * st.record.shape.segLen) →
    0 < (past - st.playPoint).toInt → (past - st.playPoint).toInt ≤ (st.fig.capacity : Int) →
    lookupKey st.tags i ≠ some ⟨g.seq, g.origin⟩ →
    exec (.audioSegment p g) s = .next
      { (s.arrived k p g fun n => { n with received := Counter.inc n.received, accepted := Counter.inc n.accepted }).modStream k
          fun t => { t with
            tags := insertKey t.tags i ⟨g.seq, g.origin⟩, anchor := some ⟨g.seq, g.origin⟩,
            newest := if 0 < (past - st.newest).toInt then past else st.newest, rejectRun := 0, accepted := true,
            quiet := 0,
            state := if st.state = .holdover then .playing else st.state,
            alarms := if st.state = .holdover then { t.alarms with starved := false } else t.alarms,
            tightest := min t.tightest (max (-32768) (min 32767 (g.origin - st.playPoint).toInt)) } with
        mem := writeWords s.mem (wordAddress st.record.shape i 0) g.samples }

/-- The rejected segment that brings the reject run to 16 relocks the stream in the same event. (R29, R32, R33, R36,
R73, R74, R151, logs 5, 39) -/
def Obligations.SixteenthRejectionRelocks : Prop :=
  ∀ (s : State) (p : Port) (g : Segment) (k : StreamId), s.HandsOver p g k →
    let st := s.stream k
    let reach : Int := (g.origin + BitVec.ofNat 32 st.record.shape.segLen - st.playPoint).toInt
    let aligned := ∀ a, st.anchor = some a →
      (g.origin - a.origin).toInt = (g.seq - a.seq).toInt * st.record.shape.segLen
    (st.Locked → 16 ≤ st.rejectRun + 1 →
      (¬ st.Fits g →
        exec (.rejectRunRelock p g) s = .next (State.relocked (s.modStream k fun t => t.modPath p fun c =>
          { c with counters := { c.counters with received := Counter.inc c.counters.received,
                                                 mismatch := Counter.inc c.counters.mismatch } }) k)
        ∧ exec (.audioSegment p g) s = exec (.rejectRunRelock p g) s)
      ∧ (st.Fits g → ¬ aligned →
        exec (.rejectRunRelock p g) s = .next (State.relocked (s.arrived k p g fun n =>
          { n with received := Counter.inc n.received, mismatch := Counter.inc n.mismatch }) k)
        ∧ exec (.audioSegment p g) s = exec (.rejectRunRelock p g) s)
      ∧ (st.Fits g → aligned → reach ≤ 0 →
        exec (.rejectRunRelock p g) s = .next (State.relocked (s.arrived k p g fun n =>
          { n with received := Counter.inc n.received, late := Counter.inc n.late }) k)
        ∧ exec (.audioSegment p g) s = exec (.rejectRunRelock p g) s)
      ∧ (st.Fits g → aligned → 0 < reach → (st.fig.capacity : Int) < reach →
        exec (.rejectRunRelock p g) s = .next (State.relocked (s.arrived k p g fun n =>
          { n with received := Counter.inc n.received, early := Counter.inc n.early }) k)
        ∧ exec (.audioSegment p g) s = exec (.rejectRunRelock p g) s))
    ∧ (st.rejectRun + 1 < 16 → exec (.rejectRunRelock p g) s = .next s)

/-- Every frame of an accepted segment is present at once and reads back the samples received; other frames are
missing. (R43, R44, R45, R49, R50) -/
def Obligations.AcceptedSegmentIsPresent : Prop :=
  (∀ (s t : State) (p : Port) (g : Segment) (k : StreamId), s.TableSound → s.HandsOver p g k →
    ((s.stream k).verdict g = .first ∨ (s.stream k).verdict g = .accepted) →
    exec (.audioSegment p g) s = .next t →
    ∀ f : Nat, f < g.frames →
      t.frameAt k (g.origin + BitVec.ofNat 32 f)
        = some (Vector.ofFn fun c : Fin 16 =>
            if c.val < g.channels then (g.samples[f * g.channels + c.val]?).getD 0 else 0))
  ∧ ∀ (s : State) (k : StreamId) (x : Origin),
    let st := s.stream k
    let len : Int := st.record.shape.segLen
    (st.anchor = none → s.frameAt k x = none)
    ∧ ∀ (a : Tag) (n o : Int), st.anchor = some a → (x - a.origin).toInt = n * len + o → 0 ≤ o → o < len →
      let q : Seq := a.seq + BitVec.ofInt 16 n
      let held := lookupKey st.tags (q.toNat % st.fig.slots)
      (held = none → s.frameAt k x = none)
      ∧ (∀ g : Tag, held = some g → g ≠ ⟨q, a.origin + BitVec.ofInt 32 (n * len)⟩ → s.frameAt k x = none)
      ∧ (held = some ⟨q, a.origin + BitVec.ofInt 32 (n * len)⟩ → s.frameAt k x ≠ none)

/-- No segment changes anything of another stream, nor any sample another enabled stream can read. (R23, R28, R42,
R45) -/
def Obligations.SegmentLeavesOtherStreamsAlone : Prop :=
  ∀ (s t : State) (p : Port) (g : Segment) (k j : StreamId), s.TableSound → g.stream = k.val + 1 → j ≠ k →
    exec (.audioSegment p g) s = .next t →
    t.stream j = s.stream j
    ∧ ((s.stream j).enabled = true → ∀ x : Origin, t.frameAt j x = s.frameAt j x)
    ∧ t.tb = s.tb ∧ t.dev = s.dev ∧ t.cover = s.cover ∧ t.matrix = s.matrix ∧ t.bus = s.bus
    ∧ t.inProgress = s.inProgress ∧ t.pins = s.pins

/-- In FREE_RUN the oscillator produces the house frames, and reference edges are only measured. (R54, R55, R57, R58,
R65, R66, R144, logs 3, 4, 7) -/
def Obligations.FreeRunFramesAndEdges : Prop :=
  ∀ (s : State) (e : Edge),
    let p := if s.tb.firstDue then 0 else s.tb.phase + 1
    let n := if s.tb.firstDue then 0 else s.tb.h + 1
    let tb : Timebase := { s.tb with h := n, phase := p, firstDue := false }
    (s.tb.ref = .freeRun → s.pins.resetLine = false →
      exec .oscillatorFrame s = .next (s.handedFrame tb)
      ∧ (s.tb.spanOpen = false →
        exec (.referenceEdge e) s = .next { s with tb := { s.tb with spanOpen := true } })
      ∧ (s.tb.spanOpen = true → 61440 ≤ e.span → e.span ≤ 69632 → s.tb.goodRun + 1 < 480 →
        exec (.referenceEdge e) s = .next { s with tb := { s.tb with goodRun := s.tb.goodRun + 1 } })
      ∧ (s.tb.spanOpen = true → e.span < 61440 ∨ 69632 < e.span →
        exec (.referenceEdge e) s = .next { s with tb := { s.tb with goodRun := 0 } })
      ∧ exec .goodEdgeRunLapse s = .next { s with tb := { s.tb with goodRun := 0, spanOpen := false } })
    ∧ (s.tb.ref = .freeRun → s.pins.resetLine = true →
      exec .oscillatorFrame s = .next
        { s with tb := tb,
                 bus := { s.bus with formed0 := none, formed1 := s.bus.formed0, formed2 := s.bus.formed1, due := true } }
      ∧ exec (.referenceEdge e) s = .next s ∧ exec .goodEdgeRunLapse s = .next s)
    ∧ (s.tb.ref = .lockedRef → exec .oscillatorFrame s = .next s ∧ exec .goodEdgeRunLapse s = .next s)

/-- In LOCKED_REF an edge in the window produces the house frame, and its mark captures the phase and may re-phase.
(R55, R56, R60, R61, R65, logs 3, 7, 9) -/
def Obligations.EdgeFrameTakesItsMark : Prop :=
  ∀ (s : State) (e : Edge), s.tb.ref = .lockedRef → s.pins.resetLine = false →
    let p := if s.tb.firstDue then 0 else s.tb.phase + 1
    let n := if s.tb.firstDue then 0 else s.tb.h + 1
    let slips := e.mark = true ∧ p ≠ 0
    let tb : Timebase := { s.tb with
      h := n, phase := if slips ∧ s.dev.rephase = true then 0 else p,
      lastMark := if e.mark then p else s.tb.lastMark, missedRun := 0, firstDue := false }
    (-32768 ≤ e.offset → e.offset ≤ 32768 →
      exec (.referenceEdge e) s
        = .next (if slips then (s.handedFrame tb).latch .markSlip 0 else s.handedFrame tb))
    ∧ (e.offset < -32768 ∨ 32768 < e.offset → exec (.referenceEdge e) s = .next s)

/-- A missed-edge frame is produced in the ordinary way, and the fourth in a row enters FREE_RUN and raises REF_LOST.
(R54, R55, R56, R57, R161, R65, log 7) -/
def Obligations.FourthMissedEdgeEntersFreeRun : Prop :=
  ∀ s : State, s.tb.ref = .lockedRef → s.pins.resetLine = false →
    let p := if s.tb.firstDue then 0 else s.tb.phase + 1
    let n := if s.tb.firstDue then 0 else s.tb.h + 1
    let u := s.handedFrame { s.tb with h := n, phase := p, firstDue := false, ref := .freeRun, missedRun := 0,
                                       goodRun := 0, spanOpen := false }
    (s.tb.missedRun + 1 < 4 →
      exec .missedEdgeFrame s = .next
        (s.handedFrame { s.tb with h := n, phase := p, firstDue := false, missedRun := s.tb.missedRun + 1 }))
    ∧ (4 ≤ s.tb.missedRun + 1 →
      exec .enterFreeRun s = .next (if s.ev.refLost then u else
        State.latch { u with ev := { u.ev with refLost := true } } .refLost 0)
      ∧ exec .missedEdgeFrame s = exec .enterFreeRun s)

/-- The 480th good edge enters LOCKED_REF, clears REF_LOST, takes its mark and latches REF_RESTORED. (R58, R59, R60,
R61, R168, R65, logs 3, 7, 8) -/
def Obligations.GoodEdge480EntersLockedRef : Prop :=
  ∀ (s : State) (e : Edge), s.tb.ref = .freeRun → s.pins.resetLine = false → s.tb.spanOpen = true →
    61440 ≤ e.span → e.span ≤ 69632 → 480 ≤ s.tb.goodRun + 1 →
    let p := if s.tb.firstDue then 0 else s.tb.phase + 1
    let n := if s.tb.firstDue then 0 else s.tb.h + 1
    let slips := e.mark = true ∧ p ≠ 0
    let tb : Timebase := { s.tb with
      h := n, phase := if slips ∧ s.dev.rephase = true then 0 else p,
      lastMark := if e.mark then p else s.tb.lastMark, ref := .lockedRef, missedRun := 0, goodRun := 0,
      spanOpen := false, firstDue := false }
    let u : State := { s.handedFrame tb with ev := { s.ev with refLost := false } }
    exec (.enterLockedRef e) s
      = .next (State.latch (if slips then u.latch .markSlip 0 else u) .refRestored 0)
    ∧ exec (.referenceEdge e) s = exec (.enterLockedRef e) s

/-- The in-force copy puts every record's tuning fields in force in one event and keeps the tuning of the closing
block for the boundary's work. (R19, R20, R55, R86, R98, logs 4, 14) -/
def Obligations.InForceTuningIsCopiedAtTheBoundary : Prop :=
  ∀ s : State,
    (s.pins.resetLine = false → s.copyDue = true → ∃ t, exec (.inForceTuningCopy .allStreams) s = .next t
      ∧ (∀ k : StreamId, t.stream k = { (s.stream k) with inForce := (s.stream k).record.tuning })
      ∧ t = { s with streams := t.streams, copyDue := false }
      ∧ exec (.inForceTuningCopy .allStreams) t = .next t
      ∧ ∀ k : StreamId, (t.stream k).closing = (s.stream k).closing)
    ∧ (s.pins.resetLine = true ∨ s.copyDue = false → exec (.inForceTuningCopy .allStreams) s = .next s)
    ∧ ∀ (k : StreamId) (tb : Timebase), tb.phase = 0 → ((s.handedFrame tb).stream k).closing = (s.stream k).inForce

/-- In PLAYING a servo step computes lead, error, S, rate, direction and Q, schedules a slip, and settles SERVO_LIMIT.
(R90, R91, R92, R93, R94, R95, R96, R97, R98, log 14) -/
def Obligations.ServoStepInPlaying : Prop :=
  ∀ (s : State) (k : StreamId), s.pins.resetLine = false → (s.stream k).stepDue = true →
    (s.stream k).enabled = true → (s.stream k).state = .playing →
    let st := s.stream k
    let w := st.closing
    let l : Int := max (-32768) (min 32767 (st.newest - st.playPoint).toInt)
    let e : Int := max (-32767) (min 32767 (l - st.fig.effH))
    let S : Int := max (-1048576) (min 1048575 (st.servo.s - st.servo.s.fdiv 16 + e))
    let outside := 1 ≤ w.gain ∧ w.deadband < S.natAbs / 16
    let rmax := min w.rmax 4096
    let u := if outside then S.natAbs * w.gain / 16 else 0
    let r := min u rmax
    let dir : Slip := if 0 < S then .drop else if S < 0 then .insert else .none
    let q := st.servo.q + r
    let next : State := s.modStream k fun t => { t with
      servo := { s := S, r := r, q := if 65536 ≤ q then q - 65536 else q, direction := dir, lead := l, error := e,
                 unclamped := u },
      stepDue := false, slipDue := if 65536 ≤ q then dir else t.slipDue }
    let alarmed (v : Bool) : State := next.modStream k fun t => { t with alarms := { t.alarms with servoLimit := v } }
    exec (.servoStep k) s
      = .next (if outside ∧ rmax < u then
          (if st.alarms.servoLimit then next else (alarmed true).latch .servoLimit (k.val + 1))
        else alarmed false)

/-- A servo step freezes the servo in HOLDOVER and clears SERVO_LIMIT in ACQUIRE and FILLING. (R66, R90, R99, R100,
R101, log 4) -/
def Obligations.ServoStepOutsidePlaying : Prop :=
  ∀ (s : State) (k : StreamId),
    (s.pins.resetLine = false → (s.stream k).stepDue = true → (s.stream k).enabled = true →
      ((s.stream k).state = .holdover →
        exec (.servoStep k) s = .next (s.modStream k fun st => { st with stepDue := false }))
      ∧ ((s.stream k).state = .acquire ∨ (s.stream k).state = .filling →
        exec (.servoStep k) s = .next (s.modStream k fun st =>
          { st with stepDue := false, alarms := { st.alarms with servoLimit := false } })))
    ∧ (s.pins.resetLine = true ∨ (s.stream k).stepDue = false ∨ (s.stream k).enabled = false →
      exec (.servoStep k) s = .next s)

/-- A frame stage without a slip plays the frame at P, or the concealment frame where it is missing. (R78, R79, R80,
R81, R83, R109, R110, R111, R112, R115, R116, R117, R121, R153, log 4) -/
def Obligations.FrameStagePlaysOrConceals : Prop :=
  ∀ (s : State) (k : StreamId),
    let st := s.stream k
    let frame := s.frameAt k st.playPoint
    let out : Frame := frame.getD (st.fillIn (s.coverSupplied k))
    ((st.state = .playing ∧ st.slipDue = .none) ∨ st.state = .holdover →
      s.frameStage k = (s.modStream k fun t => { t with
        frameOrigin := t.playPoint, playPoint := t.playPoint + 1, slipDue := .none, lastOut := out, handed := out,
        frameDue := false,
        concealed := if frame = none then Counter.inc t.concealed else t.concealed,
        covered := if frame = none ∧ s.coverSupplied k ≠ none then Counter.inc t.covered else t.covered }).detects k
          st.state out)
    ∧ (s.pins.resetLine = false → st.frameDue = true → s.tb.phase ≠ 0 →
      exec (.playoutEngineWork k) s = .next (s.frameStage k))
    ∧ (s.pins.resetLine = true ∨ st.frameDue = false → exec (.playoutEngineWork k) s = .next s)

/-- A drop frame averages the frames at P and P + 1 and advances P by 2; an insert frame averages the last output and
the frame at P. (R79, R81, R82, R103, R104, R105, R106, R115, R116, R117, R121, R153, logs 4, 5, 34) -/
def Obligations.SlipFramesAverageTwoFrames : Prop :=
  ∀ (s : State) (k : StreamId),
    let st := s.stream k
    let fill := st.fillIn (s.coverSupplied k)
    let a := s.frameAt k st.playPoint
    let b := s.frameAt k (st.playPoint + 1)
    let dropped := st.averaged (a.getD fill) (b.getD fill)
    let inserted := st.averaged st.lastOut (a.getD fill)
    (st.state = .playing → st.slipDue = .drop →
      s.frameStage k = (s.modStream k fun t => { t with
        frameOrigin := t.playPoint, playPoint := t.playPoint + 2, slipDue := .none, lastOut := dropped,
        handed := dropped, frameDue := false,
        concealed := if a = none ∨ b = none then Counter.inc t.concealed else t.concealed,
        covered := if (a = none ∨ b = none) ∧ s.coverSupplied k ≠ none then Counter.inc t.covered else t.covered }).detects k
          .playing dropped)
    ∧ (st.state = .playing → st.slipDue = .insert →
      s.frameStage k = (s.modStream k fun t => { t with
        frameOrigin := t.playPoint, slipDue := .none, lastOut := inserted, handed := inserted, frameDue := false,
        concealed := if a = none then Counter.inc t.concealed else t.concealed,
        covered := if a = none ∧ s.coverSupplied k ≠ none then Counter.inc t.covered else t.covered }).detects k
          .playing inserted)
    ∧ (s.pins.resetLine = false → st.frameDue = true → st.state = .playing →
      let u : State := if s.tb.phase = 0 then
          s.modStream k fun t => { t with quiet := min (t.quiet + 1) 65535 } else s
      (s.tb.phase = 0 → st.accepted = true ∨ min (st.quiet + 1) 65535 < st.closing.starveTimeout) →
      (st.slipDue = .drop → exec (.dropFrame k) s = .next (u.frameStage k)
        ∧ exec (.playoutEngineWork k) s = exec (.dropFrame k) s ∧ exec (.insertFrame k) s = .next s)
      ∧ (st.slipDue = .insert → exec (.insertFrame k) s = .next (u.frameStage k)
        ∧ exec (.playoutEngineWork k) s = exec (.insertFrame k) s ∧ exec (.dropFrame k) s = .next s))
    ∧ (s.pins.resetLine = true ∨ st.frameDue = false ∨ st.state ≠ .playing ∨ st.slipDue = .none
        ∨ s.tb.phase = 0 ∧ st.accepted = false ∧ st.closing.starveTimeout ≤ min (st.quiet + 1) 65535 →
      exec (.dropFrame k) s = .next s ∧ exec (.insertFrame k) s = .next s)

/-- A frame stage plays only cover in ACQUIRE and FILLING and zero in IDLE, and FILLING enters PLAYING when P reaches
t0. (R69, R76, R78, R79, R80, R83, R102, R115, R116, R117, R118, logs 30, 36) -/
def Obligations.FrameStageOutsidePlay : Prop :=
  ∀ (s : State) (k : StreamId), s.pins.resetLine = false → (s.stream k).frameDue = true →
    let st := s.stream k
    let out := st.coverAlone (s.coverSupplied k)
    let covered (t : Stream) := if s.coverSupplied k ≠ none then Counter.inc t.covered else t.covered
    (st.state = .idle → exec (.playoutEngineWork k) s = .next ((s.modStream k fun t => { t with
        slipDue := .none, lastOut := Vector.replicate 16 0, handed := Vector.replicate 16 0, frameDue := false }).closePeak k))
    ∧ (st.state = .acquire → exec (.playoutEngineWork k) s = .next ((s.modStream k fun t => { t with
        frameOrigin := t.playPoint, slipDue := .none, lastOut := out, handed := out, frameDue := false,
        covered := covered t }).closePeak k))
    ∧ (st.state = .filling → st.playPoint + 1 ≠ st.fillStart →
      exec (.playoutEngineWork k) s = .next ((s.modStream k fun t => { t with
        frameOrigin := t.playPoint, playPoint := t.playPoint + 1, slipDue := .none, lastOut := out, handed := out,
        frameDue := false, covered := covered t }).closePeak k))
    ∧ (st.state = .filling → st.playPoint + 1 = st.fillStart →
      exec (.enterPlaying k) s = .next (((s.modStream k fun t => { t with
        frameOrigin := t.playPoint, playPoint := t.playPoint + 1, slipDue := .none, lastOut := out, handed := out,
        frameDue := false, covered := covered t, state := .playing, quiet := 0, holdover := 0,
        servo := { s := 0, r := 0, q := 0, direction := .none, lead := 0, error := 0, unclamped := 0 } }).closePeak
          k).latch .locked (k.val + 1))
      ∧ exec (.playoutEngineWork k) s = exec (.enterPlaying k) s)

/-- At a block boundary quiet and holdover blocks advance, PLAYING starves into HOLDOVER and HOLDOVER relocks at its
limit. (R40, R70, R72, R73, R78, R84, R85, R86, R87, logs 5, 14, 34, 39) -/
def Obligations.BoundaryStageStarvesAndRelocks : Prop :=
  ∀ (s : State) (k : StreamId), s.pins.resetLine = false → (s.stream k).frameDue = true → s.tb.phase = 0 →
    let st := s.stream k
    let quiet := min (st.quiet + 1) 65535
    let blocks := min (st.holdover + 1) 65535
    (st.state = .playing → st.accepted = true ∨ quiet < st.closing.starveTimeout →
      exec (.playoutEngineWork k) s = .next ((s.modStream k fun t => { t with quiet := quiet }).frameStage k)
      ∧ exec (.starveTimeout k) s = .next s)
    ∧ (st.state = .playing → st.accepted = false → st.closing.starveTimeout ≤ quiet →
      exec (.starveTimeout k) s = .next (((s.modStream k fun t =>
        { t with quiet := quiet, state := .holdover, holdover := 0 }).raise k .starved).frameStage k)
      ∧ exec (.playoutEngineWork k) s = exec (.starveTimeout k) s)
    ∧ (st.state = .holdover → blocks < st.closing.holdoverLimit →
      exec (.playoutEngineWork k) s
        = .next ((s.modStream k fun t => { t with quiet := quiet, holdover := blocks }).frameStage k)
      ∧ exec (.holdoverLimitRelock k) s = .next s)
    ∧ (st.state = .holdover → st.closing.holdoverLimit ≤ blocks →
      exec (.holdoverLimitRelock k) s = .next ((s.relocked k).frameStage k)
      ∧ exec (.playoutEngineWork k) s = exec (.holdoverLimitRelock k) s)

/-- The monitor's boundary work advances each admitted path, raises a path that timed out, freezes a saturated gap and
closes the block peak. (R148, R150, R154, R155, R157, logs 4, 5, 14, 39) -/
def Obligations.MonitorBoundaryWorkOnBothPaths : Prop :=
  ∀ (s : State) (k : StreamId),
    let st := s.stream k
    let u0 := s.modStream k fun t => { t with
      pathA := t.pathAfterBoundary .a s.tb.h, pathB := t.pathAfterBoundary .b s.tb.h, monitorDue := false }
    let u1 := if st.pathFails .a then u0.raise k .pathADown else u0
    let u2 := if st.pathFails .b then u1.raise k .pathBDown else u1
    (s.pins.resetLine = false → st.monitorDue = true → st.enabled = true →
      exec (.monitorBoundaryWork k) s = .next (u2.closePeak k)
      ∧ (∀ p : Port, exec (.pathTimeout k p) s = .next (if st.pathFails p then u2.closePeak k else s))
      ∧ (∀ (p : Port) (a : HouseCount), (st.path p).lastArrival = some a → (st.path p).frozen = false →
          exec (.intervalSaturation k p) s = .next (if 65535 ≤ (s.tb.h - a).toNat then u2.closePeak k else s))
      ∧ (∀ p : Port, (st.path p).lastArrival = none ∨ (st.path p).frozen = true →
          exec (.intervalSaturation k p) s = .next s)
      ∧ (st.peakDue = true → st.FallsSilent → exec (.silenceWindow k .monitorWork) s = .next (u2.closePeak k))
      ∧ (st.peakDue = false ∨ ¬ st.FallsSilent → exec (.silenceWindow k .monitorWork) s = .next s))
    ∧ (s.pins.resetLine = true ∨ st.monitorDue = false ∨ st.enabled = false →
      exec (.monitorBoundaryWork k) s = .next s ∧ (∀ p : Port, exec (.pathTimeout k p) s = .next s)
      ∧ (∀ p : Port, exec (.intervalSaturation k p) s = .next s)
      ∧ exec (.silenceWindow k .monitorWork) s = .next s)

/-- The first close at a boundary empties the block peak and, in PLAYING or HOLDOVER, tests it against the silence
threshold. (R154, R155, R156, R157, logs 14, 39) -/
def Obligations.CloseOfTheBlockPeakTestsForSilence : Prop :=
  ∀ (s : State) (k : StreamId),
    let st := s.stream k
    let tests := (st.state = .playing ∨ st.state = .holdover) ∧ st.closing.watch ≠ none ∧ st.relockOpen = false
    let run := min (st.silentRun + 1) 65535
    let ended := s.modStream k fun t => { t with
      peakDue := false, blockPeak := none, silentRun := 0, silence := false, relockOpen := false,
      alarms := if t.silence then { t.alarms with silence := false } else t.alarms }
    (st.peakDue = false → s.closePeak k = s)
    ∧ (st.peakDue = true →
      (¬ tests → s.closePeak k = ended)
      ∧ (tests → st.blockPeak = none → s.closePeak k = s.modStream k fun t => { t with peakDue := false })
      ∧ (tests → ∀ v, st.blockPeak = some v →
        (st.closing.silenceThreshold ≤ v → s.closePeak k = ended)
        ∧ (v < st.closing.silenceThreshold → st.silence = true ∨ run < st.closing.silenceWindow →
          s.closePeak k = s.modStream k fun t => { t with peakDue := false, blockPeak := none, silentRun := run })
        ∧ (v < st.closing.silenceThreshold → st.silence = false → st.closing.silenceWindow ≤ run →
          s.closePeak k = (s.modStream k fun t =>
            { t with peakDue := false, blockPeak := none, silentRun := run, silence := true }).raise k .silence)))
    ∧ (s.pins.resetLine = false → st.frameDue = true → s.tb.phase = 0 →
      ((s.boundaryStage k).stream k).peakDue = true → ((s.boundaryStage k).stream k).FallsSilent →
      exec (.silenceWindow k .handOff) s = .next ((s.boundaryStage k).frameStage k))

/-- The route matrix event steps every fade level and forms every slot value from its driver. (R18, R123, R128, R129,
R130, R131, R132, R133, R136, R137, R139, R140, logs 4, 35) -/
def Obligations.RouteMatrixFormsEverySlot : Prop :=
  ∀ s : State,
    let b := s.matrix.activeBank
    let driver (j : SlotId) : Option RouteRecord := b.toList.find? fun r => r.inUse && decide (r.slot = j)
    let mutes (r : RouteRecord) : Bool := r.automute && decide (r.source = .stream) &&
      (let f := (s.stream r.stream).alarms
       let m := s.dev.muteMask
       (f.starved && !m.starved) || (f.servoLimit && !m.servoLimit) || (f.pathADown && !m.pathADown)
         || (f.pathBDown && !m.pathBDown) || (f.silence && !m.silence))
    let opens (j : SlotId) : Bool := match driver j with
      | none => false
      | some r => (if r.enableSource = .own then r.ownEnable else s.matrix.cutHeld.getLsbD r.cutLine.val) && !mutes r
    let level (j : SlotId) : Nat := let m := s.matrix.slots[j].fade
      if opens j then (if m < 48 then m + 1 else m) else m - 1
    let sample : DriverSource → Sample := fun d => match d with
      | .stream k c => if c.val < (s.stream k).channels then (s.stream k).handed[c] else 0
      | .pattern => s.matrix.live[s.tb.phase]
    let part (d : Option Driver) (m w : Nat) : Int := match d with
      | none => 0
      | some d => (sample d.source).toInt * ((d.gain.val * m / 48 * w / 48 : Nat) : Int)
    let sum (j : SlotId) : Int := match s.matrix.slots[j].transition with
      | .none => part (drivenBy b j) (level j) 48
      | .departing d => part d (level j) (48 - s.tb.phase.val) + part (drivenBy b j) (level j) s.tb.phase.val
    let rounded (x : Int) : Int := if 0 ≤ x then (2 * x + 16384) / 32768 else -((2 * -x + 16384) / 32768)
    let value (j : SlotId) : Sample := BitVec.ofInt 24 (max (-8388608) (min 8388607 (rounded (sum j))))
    s.formSlots = { s with
      matrix := { s.matrix with due := false, slots := Vector.ofFn fun j => { s.matrix.slots[j] with
        fade := level j, open_ := opens j, automuted := match driver j with
          | none => false
          | some r => mutes r } },
      bus := { s.bus with formed0 := some (Vector.ofFn value) } }
    ∧ (s.pins.resetLine = false → s.matrix.due = true → (∀ k, (s.stream k).frameDue = false) → s.tb.phase ≠ 0 →
      exec .routeMatrixEvent s = .next s.formSlots)
    ∧ (∀ (c : Bank) (j : SlotId), driverOf c j = drivenBy c j)
    ∧ (s.pins.resetLine = true ∨ s.matrix.due = false ∨ (∃ k, (s.stream k).frameDue = true) →
      exec .routeMatrixEvent s = .next s)

/-- At a block boundary transitions end, a waiting SWAP exchanges the banks and is answered, and the pattern is
copied, before the slots are formed. (R130, R134, R135, R136, R137, R142, R186, logs 4, 5) -/
def Obligations.BoundaryWorkOfTheRouteMatrix : Prop :=
  ∀ s : State,
    let old := s.matrix.activeBank
    let new := s.matrix.standbyBank
    let copied (u : State) : State := { u with matrix := { u.matrix with
      live := if u.dev.patternHold then u.matrix.live else u.matrix.shadow } }
    let kept : State := { s with matrix := { s.matrix with
      slots := Vector.ofFn fun j => { s.matrix.slots[j] with transition := .none } } }
    let swapped : State := { s with matrix := { s.matrix with
      active := s.matrix.active.other, swapWaiting := false,
      slots := Vector.ofFn fun j => { s.matrix.slots[j] with
        transition := if drivenBy old j = drivenBy new j then .none else .departing (drivenBy old j) } } }
    (s.pins.resetLine = false → s.matrix.due = true → (∀ k, (s.stream k).frameDue = false) → s.tb.phase = 0 →
      (s.matrix.swapWaiting = false →
        exec .routeMatrixEvent s = .next (copied kept).formSlots ∧ exec .swapPerformed s = .next s)
      ∧ (s.matrix.swapWaiting = true → ∀ r, s.inProgress = some r →
        exec .swapPerformed s = .next (copied
          { (swapped.latch .bankSwapped 0).answer r .ok [] with inProgress := none }).formSlots
        ∧ exec .routeMatrixEvent s = exec .swapPerformed s)
      ∧ ((∃ j : SlotId, s.matrix.slots[j].transition ≠ .none) →
        exec .transitionEnd s = exec .routeMatrixEvent s)
      ∧ ((∀ j : SlotId, s.matrix.slots[j].transition = .none) → exec .transitionEnd s = .next s))
    ∧ (s.pins.resetLine = true ∨ s.matrix.due = false ∨ (∃ k, (s.stream k).frameDue = true) ∨ s.tb.phase ≠ 0 →
      exec .swapPerformed s = .next s ∧ exec .transitionEnd s = .next s)

/-- The bus frame of house frame h + 2 carries the slot values formed for house frame h, and zeros where none were
formed. (R66, R144, log 4) -/
def Obligations.BusFrameCarriesValuesOfTwoFramesBefore : Prop :=
  ∀ s : State,
    let carries (t : State) (v : SlotValues) : Prop := ∀ (j : SlotId) (lane : Fin 8) (position : Fin 32),
      lane.val = j.val / 32 → position.val = j.val % 32 → t.bus.sent[lane][position] = v[j]
    (s.bus.due = true → ∃ t, exec .galleryBusFrame s = .next t
      ∧ t = { s with bus := { s.bus with due := false, sent := t.bus.sent } }
      ∧ (∀ v, s.bus.formed2 = some v → carries t v)
      ∧ (s.bus.formed2 = none → carries t (Vector.replicate 256 0)))
    ∧ (s.bus.due = false → exec .galleryBusFrame s = .next s)
    ∧ ∀ (v : SlotValues) (tb1 tb2 : Timebase), s.bus.formed0 = some v →
      ∃ t, exec .galleryBusFrame ((s.handedFrame tb1).handedFrame tb2) = .next t ∧ carries t v

/-- The effective gain is floor(floor(g m / 48) w / 48), lies in 0 to 32767, equals g at full level and is 0 at level
0. (R139) -/
def Obligations.EffectiveGainOfAContributor : Prop :=
  (∀ g m w : Nat, g ≤ 32767 → m ≤ 48 → w ≤ 48 →
    effectiveGain g m w = (g * m / 48) * w / 48 ∧ effectiveGain g m w ≤ 32767
      ∧ effectiveGain g 48 48 = g ∧ effectiveGain g 0 w = 0)
  ∧ (∀ (s : State) (d : Option Driver) (m : Nat), s.slotSum .none d m = s.contribution d m 48)
  ∧ (∀ (s : State) (d : Driver) (m w : Nat),
      s.contribution (some d) m w = (s.sourceSample d.source).toInt * ((d.gain.val * m / 48) * w / 48 : Nat))
  ∧ ∀ (s : State) (x : Transition) (d : Option Driver), slotValue (s.slotSum x d 0) = 0

/-- A taken request is counted at its port and becomes the alert destination if addressed; its reply echoes it. (R10,
R11, R172, R179, R193, section 12.1, log 38, section 12.2) -/
def Obligations.TakenRequestIsCountedAndAnswered : Prop :=
  ∀ (s : State) (r : Request),
    let counted := s.modPort r.env.port fun l =>
      { l with counters := { l.counters with requestsAccepted := Counter.inc l.counters.requestsAccepted } }
    (r.env.unit = 0 → s.take r = counted ∧ ∀ res data, s.answer r res data = s)
    ∧ (r.env.unit ≠ 0 →
      s.take r = { counted with ev := { s.ev with
        alertDest := some { address := r.env.source, port := r.env.port, vlan := r.env.vlan } } }
      ∧ ∀ (res : Result) (data : List Byte), s.answer r res data = s.modPort r.env.port fun l =>
        l.hand { kind := .reply, dest := r.env.source, source := l.station, vlan := r.env.vlan,
                 etherType := l.etherType,
                 transport := [3, 1, s.dev.unit.getD 0, r.code, r.object, r.env.index, r.env.count]
                   ++ toBytes 4 r.env.tag.toNat ++ [res.number] ++ toBytes 2 data.length ++ data })

/-- Each READ of the eleven objects answers OK with the named records in ascending index and changes nothing else.
(R14, R17, R37, section 4.3, R89, R108, R163, R113, R123, R124, R146, R141, R158, R182, R187, R193, section 12.3, logs
13, 16, 17, 20) -/
def Obligations.ReadReturnsTheNamedRecords : Prop :=
  ∀ (s : State) (m : Envelope),
    let i := m.index.toNat
    let n := m.count.toNat
    let taken (o : Byte) : State := s.take ⟨1, o, m⟩
    let reply (o : Byte) (data : List Byte) : Host.Outcome State Fault Refusal :=
      .next ((taken o).answer ⟨1, o, m⟩ .ok data)
    (∀ o : Byte, s.Takes ⟨1, o, m⟩ → Names m 1 64 →
      (o = 1 → exec (.readStream m) s = reply 1 ((namedStreams i n).flatMap fun k => (s.stream k).streamRecord))
      ∧ (o = 2 → exec (.readStreamStatus m) s
          = reply 2 ((namedStreams i n).flatMap fun k => (s.stream k).statusRecord s.dev.muteMask))
      ∧ (o = 9 → exec (.readPathCounters m) s
          = reply 9 ((namedStreams i n).flatMap fun k => (s.stream k).pathCountersRecord))
      ∧ (o = 10 → exec (.readMonitors m) s
          = reply 10 ((namedStreams i n).flatMap fun k => (s.stream k).monitorsRecord)))
    ∧ (s.Takes ⟨1, 3, m⟩ → Names m 0 256 →
      exec (.readRouteActive m) s = reply 3 ((if s.matrix.active = .bank0 then 0 else 1) :: s.matrix.cutHeld
        :: (namedPlaces 256 i n).flatMap fun j => s.matrix.activeBank[j].routeRecord ++ s.routeStatus j))
    ∧ (s.Takes ⟨1, 4, m⟩ → Names m 0 256 →
      exec (.readRouteStandby m) s = reply 4 ((if s.matrix.active = .bank0 then 1 else 0)
        :: (namedPlaces 256 i n).flatMap fun j => s.matrix.standbyBank[j].routeRecord))
    ∧ (s.Takes ⟨1, 5, m⟩ → Names m 0 8 →
      exec (.readCover m) s = reply 5 ((namedPlaces 8 i n).flatMap fun j => s.cover[j].coverRecord))
    ∧ (s.Takes ⟨1, 6, m⟩ → Names m 0 48 →
      exec (.readPattern m) s = reply 6 ((namedPlaces 48 i n).flatMap fun j => toBytes 3 s.matrix.shadow[j].toNat))
    ∧ (s.Takes ⟨1, 7, m⟩ → Names m 0 1 → exec (.readDevice m) s = reply 7 s.deviceRecord)
    ∧ (s.Takes ⟨1, 8, m⟩ → Names m 0 2 →
      exec (.readPortCounters m) s = reply 8 ((List.range' i n).flatMap fun j =>
        if j = 0 then (taken 8).portA.countersRecord else (taken 8).portB.countersRecord))
    ∧ (s.Takes ⟨1, 11, m⟩ → Names m 0 1 → exec (.readTimebase m) s = reply 11 s.timebaseRecord)
    ∧ ∀ v : Nat, toBytes 2 v = [BitVec.ofNat 8 (v / 256), BitVec.ofNat 8 v]
      ∧ toBytes 4 v = [BitVec.ofNat 8 (v / 16777216), BitVec.ofNat 8 (v / 65536), BitVec.ofNat 8 (v / 256), BitVec.ofNat 8 v]

/-- Each COLLECT returns what READ returns and zeroes its counters and captures in the same event. (R14, R37, R122,
R158, R159, R185, section 12.3, logs 13, 16) -/
def Obligations.CollectReturnsAndZeroes : Prop :=
  ∀ (s : State) (m : Envelope),
    let i := m.index.toNat
    let n := m.count.toNat
    (s.Takes ⟨10, 8, m⟩ → Names m 0 2 →
      let u := s.take ⟨10, 8, m⟩
      exec (.collectPortCounters m) s = .next (State.answer
        { u with
          portA := if i = 0 then { u.portA with counters := ⟨0, 0, 0, 0, 0, 0, 0, 0⟩ } else u.portA,
          portB := if 2 ≤ i + n then { u.portB with counters := ⟨0, 0, 0, 0, 0, 0, 0, 0⟩ } else u.portB }
        ⟨10, 8, m⟩ .ok ((List.range' i n).flatMap fun j =>
          if j = 0 then u.portA.countersRecord else u.portB.countersRecord)))
    ∧ (s.Takes ⟨10, 9, m⟩ → Names m 1 64 →
      exec (.collectPathCounters m) s = .next (State.answer
        { s.take ⟨10, 9, m⟩ with streams := Vector.ofFn fun k : StreamId =>
            if i ≤ k.val + 1 ∧ k.val + 1 < i + n then
              { (s.stream k) with
                pathA := { (s.stream k).pathA with counters := ⟨0, 0, 0, 0, 0, 0, 0, 0⟩ },
                pathB := { (s.stream k).pathB with counters := ⟨0, 0, 0, 0, 0, 0, 0, 0⟩ } }
            else (s.stream k) }
        ⟨10, 9, m⟩ .ok ((namedStreams i n).flatMap fun k => (s.stream k).pathCountersRecord)))
    ∧ (s.Takes ⟨10, 10, m⟩ → Names m 1 64 →
      exec (.collectMonitors m) s = .next (State.answer
        { s.take ⟨10, 10, m⟩ with streams := Vector.ofFn fun k : StreamId =>
            if i ≤ k.val + 1 ∧ k.val + 1 < i + n then
              { (s.stream k) with
                pathA := { (s.stream k).pathA with lastInterval := 0, largestInterval := 0, frozen := false },
                pathB := { (s.stream k).pathB with lastInterval := 0, largestInterval := 0, frozen := false },
                tightest := 32767, concealed := 0, covered := 0 }
            else (s.stream k) }
        ⟨10, 10, m⟩ .ok ((namedStreams i n).flatMap fun k => (s.stream k).monitorsRecord)))

/-- PEEK_EVENTS returns the first pairs of the event set; READ_EVENTS also removes them and ends alert pending. (R163,
R169, R170, R171, R174, R185, section 12.3, section 10.3, section 12.2) -/
def Obligations.EventRequestsReturnPairsInOrder : Prop :=
  ∀ (s : State) (o : Byte) (m : Envelope), 1 ≤ m.count.toNat → m.count.toNat ≤ 16 →
    let flag (b : Bool) : Byte := if b then 1 else 0
    let pairs := (s.ev.events.take m.count.toNat).flatMap fun e =>
      [BitVec.ofNat 8 e.kind.number, BitVec.ofNat 8 e.stream, BitVec.ofNat 8 e.count]
    let rest := s.ev.events.drop m.count.toNat
    (s.Takes ⟨8, o, m⟩ → exec (.peekEvents o m) s
      = .next ((s.take ⟨8, o, m⟩).answer ⟨8, o, m⟩ .ok
          (toBytes 2 s.ev.events.length ++ [flag s.ev.alertPending, flag s.ev.refLost] ++ pairs)))
    ∧ (s.Takes ⟨9, o, m⟩ →
      let u := s.take ⟨9, o, m⟩
      exec (.readEvents o m) s
      = .next (State.answer { u with ev := { u.ev with events := rest, alertPending := false } } ⟨9, o, m⟩ .ok
          (toBytes 2 rest.length ++ [flag false, flag s.ev.refLost] ++ pairs)))

/-- WRITE of STREAM stores every named record, or none and names the refusal. (R18, R19, R20, R183, R192, R17, section
12.3) -/
def Obligations.WriteStreamStoresAllOrNothing : Prop :=
  (∀ b : List Byte, (readStreamRecord b).isSome = true ↔
    1 ≤ field b 1 1 ∧ field b 1 1 ≤ 16
      ∧ (field b 2 1 = 6 ∨ field b 2 1 = 12 ∨ field b 2 1 = 24 ∨ field b 2 1 = 48)
      ∧ 1 ≤ field b 5 2 ∧ field b 3 2 + field b 5 2 ≤ 2048 ∧ 12 ≤ field b 7 2 ∧ field b 7 2 ≤ 32767
      ∧ 1 ≤ field b 9 1 ∧ field b 9 1 ≤ 3 ∧ 1 ≤ field b 10 1 ∧ 1 ≤ field b 11 2 ∧ 1 ≤ field b 13 1
      ∧ field b 14 1 ≤ 2 ∧ field b 15 1 ≤ 15 ∧ (field b 19 1 ≤ 15 ∨ field b 19 1 = 255) ∧ 1 ≤ field b 22 2)
  ∧ (∀ (α : Type) (read : List Byte → Option α) (size n : Nat) (b : List Byte),
    (readRecords read size n b = none ↔ ∃ j, j < n ∧ read ((b.drop (j * size)).take size) = none)
    ∧ ∀ rs, readRecords read size n b = some rs →
      rs.length = n ∧ ∀ j, j < n → rs[j]? = read ((b.drop (j * size)).take size))
  ∧ ∀ (s : State) (m : Envelope), s.Takes ⟨2, 1, m⟩ → s.pins.protect = false → Names m 1 64 →
    m.count.toNat * 24 ≤ m.data.length →
    let r : Request := ⟨2, 1, m⟩
    let i := m.index.toNat
    let n := m.count.toNat
    let u := s.take r
    (readRecords readStreamRecord 24 n m.data = none → exec (.writeStream m) s = .next (u.answer r .badValue []))
    ∧ ∀ rs, readRecords readStreamRecord 24 n m.data = some rs →
      ((∃ (k : StreamId) (w : StreamRecord), i ≤ k.val + 1 ∧ rs[k.val + 1 - i]? = some w
          ∧ (s.stream k).enabled = true ∧ w.shape ≠ (s.stream k).record.shape) →
        exec (.writeStream m) s = .next (u.answer r .state []))
      ∧ ((∀ (k : StreamId) (w : StreamRecord), i ≤ k.val + 1 → rs[k.val + 1 - i]? = some w →
          (s.stream k).enabled = true → w.shape = (s.stream k).record.shape) →
        exec (.writeStream m) s = .next (State.answer
          { u with streams := Vector.ofFn fun k : StreamId =>
              if i ≤ k.val + 1 then
                match rs[k.val + 1 - i]? with
                | some w => { (s.stream k) with record := w }
                | none => s.stream k
              else (s.stream k) }
          r (if ∃ w ∈ rs, 4096 < w.tuning.rmax then .clamped else .ok) []))

/-- WRITE of ROUTE_STANDBY, COVER and PATTERN stores every named record in its table, or none with BAD_VALUE. (R114,
R124, R125, R141, R183, R192, R123, section 12.3) -/
def Obligations.WritesOfRoutesCoverAndPattern : Prop :=
  (∀ b : List Byte, readRouteRecord b = none ↔
    1 < field b 0 1 ∨ 1 < field b 1 1 ∨ field b 2 1 = 0 ∨ 64 < field b 2 1 ∨ 15 < field b 3 1 ∨ 32767 < field b 5 2
      ∨ 1 < field b 7 1 ∨ 1 < field b 8 1 ∨ 7 < field b 9 1 ∨ 1 < field b 10 1)
  ∧ (∀ b : List Byte, readCoverEntry b = none ↔
    1 < field b 0 1 ∨ field b 1 1 = 0 ∨ 64 < field b 1 1 ∨ field b 2 1 = 0 ∨ 64 < field b 2 1
      ∨ field b 1 1 = field b 2 1)
  ∧ ∀ (s : State) (m : Envelope), s.pins.protect = false →
    let i := m.index.toNat
    let n := m.count.toNat
    (s.Takes ⟨2, 4, m⟩ → Names m 0 256 → n * 11 ≤ m.data.length →
      let u := s.take ⟨2, 4, m⟩
      (readRecords readRouteRecord 11 n m.data = none →
        exec (.writeRouteStandby m) s = .next (u.answer ⟨2, 4, m⟩ .badValue []))
      ∧ ∀ rs, readRecords readRouteRecord 11 n m.data = some rs →
        let bank : Bank := Vector.ofFn fun j : RouteId =>
          if i ≤ j.val then (rs[j.val - i]?).getD s.matrix.standbyBank[j] else s.matrix.standbyBank[j]
        exec (.writeRouteStandby m) s = .next (State.answer
          { u with matrix := { s.matrix with
              bank0 := if s.matrix.active = .bank0 then s.matrix.bank0 else bank,
              bank1 := if s.matrix.active = .bank0 then bank else s.matrix.bank1 } } ⟨2, 4, m⟩ .ok []))
    ∧ (s.Takes ⟨2, 5, m⟩ → Names m 0 8 → n * 3 ≤ m.data.length →
      let u := s.take ⟨2, 5, m⟩
      (readRecords readCoverEntry 3 n m.data = none →
        exec (.writeCover m) s = .next (u.answer ⟨2, 5, m⟩ .badValue []))
      ∧ ∀ rs, readRecords readCoverEntry 3 n m.data = some rs →
        exec (.writeCover m) s = .next (State.answer
          { u with cover := Vector.ofFn fun j : Fin 8 =>
              if i ≤ j.val then (rs[j.val - i]?).getD s.cover[j] else s.cover[j] } ⟨2, 5, m⟩ .ok []))
    ∧ (s.Takes ⟨2, 6, m⟩ → Names m 0 48 → n * 3 ≤ m.data.length →
      exec (.writePattern m) s = .next (State.answer
        { s.take ⟨2, 6, m⟩ with matrix := { s.matrix with shadow := Vector.ofFn fun j : Fin 48 =>
            if i ≤ j.val ∧ j.val < i + n then BitVec.ofNat 24 (field m.data (3 * (j.val - i)) 3)
            else s.matrix.shadow[j] } } ⟨2, 6, m⟩ .ok []))

/-- WRITE of DEVICE is answered under the settings as they stood, and then the new settings hold. (R2, R63, R142,
R164, R175, R183, R187, R188, R191, R192, section 12.3) -/
def Obligations.WriteDeviceAnswersFromTheOldSettings : Prop :=
  (∀ b : List Byte, 28 ≤ b.length → (readDeviceWrite b = none ↔
    field b 0 1 = 0 ∨ field b 0 1 = 255 ∨ field b 2 1 % 2 = 1 ∨ field b 2 6 = 0 ∨ field b 8 1 % 2 = 1 ∨ field b 8 6 = 0
      ∨ field b 14 2 < 0x0600 ∨ field b 14 2 = 0x8100 ∨ field b 16 2 < 0x0600 ∨ field b 16 2 = 0x8100
      ∨ 1 < field b 18 1 ∨ 1 < field b 19 1))
  ∧ ∀ (s : State) (m : Envelope), s.Takes ⟨2, 7, m⟩ → s.pins.protect = false → Names m 0 1 → 28 ≤ m.data.length →
    let u := s.take ⟨2, 7, m⟩
    (readDeviceWrite m.data = none → exec (.writeDevice m) s = .next (u.answer ⟨2, 7, m⟩ .badValue []))
    ∧ ∀ w, readDeviceWrite m.data = some w →
      let v := u.answer ⟨2, 7, m⟩ .ok []
      w.unit ≠ 0 ∧ w.unit ≠ 255
      ∧ exec (.writeDevice m) s = .next { v with
          portA := { v.portA with station := w.stationA, etherType := w.etherTypeA },
          portB := { v.portB with station := w.stationB, etherType := w.etherTypeB },
          dev := { unit := some w.unit, strap := s.dev.strap, rephase := w.rephase, patternHold := w.patternHold,
                   muteMask := w.muteMask, eventEnable := w.eventEnable, alertEnable := w.alertEnable } }

/-- ENABLE enables every named stream in ACQUIRE with its figures, or none and names the refusal. (R18, R19, R22, R23,
R24, R25, R67, R102, R109, R149, R156, R184, logs 14, 35) -/
def Obligations.EnableFixesFiguresOrRefuses : Prop :=
  ∀ (s : State) (m : Envelope), s.Takes ⟨3, 1, m⟩ → s.pins.protect = false → Names m 1 64 →
    let r : Request := ⟨3, 1, m⟩
    let i := m.index.toNat
    let n := m.count.toNat
    let u := s.take r
    let named (k : StreamId) : Prop := i ≤ k.val + 1 ∧ k.val + 1 < i + n
    let size (k : StreamId) : Nat := (s.stream k).record.shape.channels * (s.stream k).record.shape.segLen
    let words (k : StreamId) : Nat := (s.stream k).record.shape.pageCount * 768
    let figures (k : StreamId) : Figures := (s.stream k).record.shape.figures
    let enabled := ∃ k, named k ∧ (s.stream k).enabled = true
    let small := ∃ k, named k ∧ words k / size k < 4
    let shares := ∃ j k : StreamId, named k ∧ ((s.stream j).enabled = true ∨ (named j ∧ j < k))
      ∧ (s.stream j).record.shape.overlaps (s.stream k).record.shape = true
    (enabled → exec (.enable m) s = .next (u.answer r .state []))
    ∧ (¬ enabled → small → exec (.enable m) s = .next (u.answer r .badValue []))
    ∧ (¬ enabled → ¬ small → shares → exec (.enable m) s = .next (u.answer r .overlap []))
    ∧ (¬ enabled → ¬ small → ¬ shares → ∃ t,
      exec (.enable m) s = .next (State.answer t r
          (if ∃ k, named k ∧ (figures k).capacity - 2 * (s.stream k).record.shape.segLen
              < (s.stream k).record.shape.holdDepth then .clamped else .ok) [])
      ∧ t = { u with streams := t.streams }
      ∧ (∀ k, ¬ named k → t.stream k = s.stream k)
      ∧ ∀ k, named k →
        t.stream k = { (s.stream k) with
          enabled := true, figures := some (figures k),
          channels := (s.stream k).record.shape.channels, inForce := (s.stream k).record.tuning,
          state := .acquire, playPoint := 0, frameOrigin := 0, newest := 0,
          anchor := none, fillStart := 0, rejectRun := 0, quiet := 0, holdover := 0, slipDue := .none, tags := [],
          servo := { s := 0, r := 0, q := 0, direction := .none, lead := 0, error := 0, unclamped := 0 },
          lastOut := Vector.replicate 16 0,
          pathA := { (s.stream k).pathA with expected := none, blocksSince := 0, lastArrival := none },
          pathB := { (s.stream k).pathB with expected := none, blocksSince := 0, lastArrival := none },
          blockPeak := none, silentRun := 0, relockOpen := false })

/-- Slots is the largest power of two up to 4096 that fits the pages; capacity and effective H follow. (section 2.2,
R22, R24) -/
def Obligations.FiguresOfAnEnable : Prop :=
  ∀ sh : Shape, 1 ≤ sh.channels → 1 ≤ sh.segLen →
    let f := sh.figures
    (f.slots = 0 ∨ ∃ e, e ≤ 12 ∧ f.slots = 2 ^ e)
    ∧ f.slots * (sh.channels * sh.segLen) ≤ sh.pageCount * 768
    ∧ (f.slots ≠ 4096 → sh.pageCount * 768 < (2 * f.slots + if f.slots = 0 then 1 else 0) * (sh.channels * sh.segLen))
    ∧ f.capacity = f.slots * sh.segLen
    ∧ f.effH = (if f.capacity - 2 * sh.segLen < sh.holdDepth then f.capacity - 2 * sh.segLen else sh.holdDepth)

/-- DISABLE places each named enabled stream in IDLE without its alarms; RELOCK relocks each in ascending index. (R26,
R73, R75, R76, R156, R157, R162, R167, R184, logs 15, 33, 38, 39) -/
def Obligations.DisableAndRelockTheNamedStreams : Prop :=
  ∀ (s : State) (m : Envelope), s.pins.protect = false → Names m 1 64 →
    let i := m.index.toNat
    let n := m.count.toNat
    (s.Takes ⟨4, 1, m⟩ →
      exec (.disable m) s = .next (State.answer
        { s.take ⟨4, 1, m⟩ with streams := Vector.ofFn fun k : StreamId =>
            if (i ≤ k.val + 1 ∧ k.val + 1 < i + n) ∧ (s.stream k).enabled = true then
              { (s.stream k) with
                enabled := false, state := .idle, tags := [], anchor := none,
                alarms := ⟨false, false, false, false, false⟩, quiet := 0, holdover := 0, slipDue := .none,
                pathA := { (s.stream k).pathA with down := false },
                pathB := { (s.stream k).pathB with down := false }, silentRun := 0, blockPeak := none,
                silence := false, relockOpen := false }
            else (s.stream k) } ⟨4, 1, m⟩ .ok []))
    ∧ (s.Takes ⟨5, 1, m⟩ →
      exec (.relock m) s = .next (State.answer
        (((List.finRange 64).filter fun k => decide (i ≤ k.val + 1) && decide (k.val + 1 < i + n)
            && (s.stream k).enabled).foldl (fun t k => t.relocked k) (s.take ⟨5, 1, m⟩)) ⟨5, 1, m⟩ .ok []))

/-- A SWAP becomes the request in progress, sets SWAP waiting, and is not answered when it is taken. (R134, R177,
R179, R180, R186) -/
def Obligations.SwapWaitsUnanswered : Prop :=
  ∀ (s : State) (o : Byte) (m : Envelope), s.Takes ⟨6, o, m⟩ → s.pins.protect = false →
    exec (.swap o m) s = .next { s.take ⟨6, o, m⟩ with
      inProgress := some ⟨6, o, m⟩, matrix := { s.matrix with swapWaiting := true } }

/-- COPY makes the standby bank a copy of the active bank; a swap then starts no transition; no COPY meets a waiting
SWAP. (R126) -/
def Obligations.CopyMakesTheBanksAlike : Prop :=
  (∀ (s : State) (o : Byte) (m : Envelope), s.Takes ⟨7, o, m⟩ → s.pins.protect = false →
    let u := s.take ⟨7, o, m⟩
    ∃ b, exec (.copy o m) s = .next (State.answer { u with matrix := b } ⟨7, o, m⟩ .ok [])
      ∧ b.standbyBank = s.matrix.activeBank ∧ b.activeBank = s.matrix.activeBank ∧ b.active = s.matrix.active
      ∧ b.slots = s.matrix.slots ∧ b.live = s.matrix.live ∧ b.shadow = s.matrix.shadow
      ∧ b.cutHeld = s.matrix.cutHeld ∧ b.swapWaiting = s.matrix.swapWaiting ∧ b.due = s.matrix.due)
  ∧ (∀ b : Matrix, b.standbyBank = b.activeBank →
    b.exchange.slots = b.slots ∧ ∀ j, drivenBy b.exchange.activeBank j = drivenBy b.activeBank j)
  ∧ ∀ (s : State) (o : Byte) (m : Envelope), s.pins.resetLine = false → s.inProgress ≠ none →
    (m.unit = 0 → exec (.copy o m) s = .next s)
    ∧ (m.unit ≠ 0 → s.dev.unit = some m.unit →
      exec (.copy o m) s = .next ((s.take ⟨7, o, m⟩).answer ⟨7, o, m⟩ .busy []))

/-- RESET hands over its OK reply and then resets; with clear-tables it also returns the tables to their power-on
values. (R15, R21, R66, R77, R113, R127, R138, R143, R160, R176, R189, R191, logs 14, 20, 27, 28, 35, 37) -/
def Obligations.ResetRequestAnswersAndThenResets : Prop :=
  ∀ (s : State) (o : Byte) (m : Envelope) (rest : List Byte), s.Takes ⟨11, o, m⟩ → s.pins.protect = false →
    let v := (s.take ⟨11, o, m⟩).answer ⟨11, o, m⟩ .ok []
    let tb : Timebase := { s.tb with ref := .freeRun, missedRun := 0, goodRun := 0, spanOpen := false }
    let ev : EventUnit := { refLost := false, events := [], alertPending := false, alertDest := none }
    let slots := s.matrix.slots.map fun j => { j with fade := 0, transition := .none }
    (m.data = 0 :: rest → exec (.reset o m) s = .next { v with
      tb := tb, ev := ev, streams := s.streams.map Stream.afterReset,
      portA := { v.portA with counters := ⟨0, 0, 0, 0, 0, 0, 0, 0⟩ },
      portB := { v.portB with counters := ⟨0, 0, 0, 0, 0, 0, 0, 0⟩ },
      matrix := { s.matrix with slots := slots } })
    ∧ (m.data = 1 :: rest → exec (.resetClearTables o m) s = .next { v with
      tb := tb, ev := ev,
      streams := s.streams.map fun st => Stream.afterReset { st with
        enabled := false, record := defaultRecord, figures := none, channels := defaultRecord.shape.channels,
        inForce := defaultRecord.tuning },
      portA := { v.portA with counters := ⟨0, 0, 0, 0, 0, 0, 0, 0⟩, etherType := 0x88B5 },
      portB := { v.portB with counters := ⟨0, 0, 0, 0, 0, 0, 0, 0⟩, etherType := 0x88B5 },
      cover := Vector.replicate 8 { inUse := false, primary := 0, cover := 1 },
      dev := { unit := s.dev.unit, strap := s.dev.strap, rephase := true, patternHold := false,
               muteMask := ⟨false, false, true, true, true⟩, eventEnable := 0x7FF, alertEnable := 0x7FF },
      matrix := { s.matrix with
        slots := slots, bank0 := Vector.replicate 256 defaultRoute, bank1 := Vector.replicate 256 defaultRoute,
        active := .bank0, live := Vector.replicate 48 0, shadow := Vector.replicate 48 0 } })

/-- Every reset cancels the transition of every slot, clear-tables leaves every slot without a driver, and no reset
latches BANK_SWAPPED. (R138) -/
def Obligations.ResetsCancelEveryTransition : Prop :=
  ∀ s : State,
    let cancelled (t : State) : Prop := (∀ (j : SlotId) (d : Option Driver) (n : Nat),
        t.matrix.slots[j].transition = .none
        ∧ t.slotSum t.matrix.slots[j].transition d n = t.contribution d n 48)
      ∧ ∀ e ∈ t.ev.events, e.kind ≠ .bankSwapped
    (∀ v, ∃ t, exec (.powerOn v) s = .next t ∧ cancelled t)
    ∧ (s.pins.resetLine = false → ∃ t, exec .resetLineAssert s = .next t ∧ cancelled t)
    ∧ ∀ (o : Byte) (m : Envelope) (rest : List Byte), s.Takes ⟨11, o, m⟩ → s.pins.protect = false →
      (m.data = 0 :: rest → ∃ t, exec (.reset o m) s = .next t ∧ cancelled t)
      ∧ (m.data = 1 :: rest → ∃ t, exec (.resetClearTables o m) s = .next t ∧ cancelled t
          ∧ (∀ n : RouteId, { t.matrix.bank0[n] with cutLine := 0 } = defaultRoute
              ∧ { t.matrix.bank1[n] with cutLine := 0 } = defaultRoute)
          ∧ t.matrix.active = .bank0 ∧ ∀ j, drivenBy t.matrix.activeBank j = none)

/-- A request is dropped, refused BUSY, or refused by the first check that fails, and a refusal changes nothing else.
(R177, R178, R179, R180, R181, R190, R192, section 11.4, section 12.2, log 5) -/
def Obligations.RequestsAreRefusedInOrder : Prop :=
  ∀ (s : State) (r : Request),
    let served := (r.env.unit = 0 ∧ 2 ≤ r.code.toNat ∧ r.code.toNat ≤ 7)
      ∨ (r.env.unit ≠ 0 ∧ s.dev.unit = some r.env.unit)
    let c := r.code.toNat
    let o := r.object.toNat
    let guarded := (2 ≤ c ∧ c ≤ 7) ∨ c = 11
    let applies := (c = 1 ∧ 1 ≤ o ∧ o ≤ 11) ∨ (c = 2 ∧ (o = 1 ∨ o = 4 ∨ o = 5 ∨ o = 6 ∨ o = 7))
      ∨ ((c = 3 ∨ c = 4 ∨ c = 5) ∧ o = 1) ∨ (c = 10 ∧ (o = 8 ∨ o = 9 ∨ o = 10))
      ∨ c = 6 ∨ c = 7 ∨ c = 8 ∨ c = 9 ∨ c = 11
    let lowest := if o = 1 ∨ o = 2 ∨ o = 9 ∨ o = 10 then 1 else 0
    let size := if o = 1 ∨ o = 2 ∨ o = 9 ∨ o = 10 then 64 else if o = 3 ∨ o = 4 then 256 else if o = 5 then 8
      else if o = 6 then 48 else if o = 8 then 2 else 1
    let indexed := c = 6 ∨ c = 7 ∨ c = 11
      ∨ ((c = 8 ∨ c = 9) ∧ 1 ≤ r.env.count.toNat ∧ r.env.count.toNat ≤ 16)
      ∨ ((c ≤ 5 ∨ c = 10) ∧ Names r.env lowest size)
    let record := if o = 1 then 24 else if o = 4 then 11 else if o = 5 then 3 else if o = 6 then 3 else 28
    let holds := (c = 2 → r.env.count.toNat * record ≤ r.env.data.length)
      ∧ (c = 11 → ∃ b rest, r.env.data = b :: rest ∧ b.toNat ≤ 1)
    (s.pins.resetLine = true ∨ ¬ served → exec r.command s = .next s)
    ∧ (s.pins.resetLine = false → served → s.inProgress ≠ none →
      exec r.command s = .next (if r.env.unit = 0 then s else (s.take r).answer r .busy []))
    ∧ (s.Takes r → guarded → s.pins.protect = true → exec r.command s = .next ((s.take r).answer r .prot []))
    ∧ (s.Takes r → ¬ (guarded ∧ s.pins.protect = true) →
      (¬ applies → exec r.command s = .next ((s.take r).answer r .badObject []))
      ∧ (applies → ¬ indexed → exec r.command s = .next ((s.take r).answer r .badIndex []))
      ∧ (applies → indexed → ¬ holds → exec r.command s = .next ((s.take r).answer r .badValue [])))
    ∧ (s.Takes r → c = 0 ∨ 12 ≤ c →
      exec (.unknownRequest r.code r.object r.env) s = .next ((s.take r).answer r .badObject []))
    ∧ (s.Takes r → s.pins.protect = false → 1 ≤ c → c ≤ 11 → ¬ applies →
      exec (.requestNotApplyingToObject r.code r.object r.env) s = .next ((s.take r).answer r .badObject []))
    ∧ (1 ≤ c → c ≤ 11 → exec (.unknownRequest r.code r.object r.env) s = .next s)
    ∧ (c = 0 ∨ 12 ≤ c ∨ applies → exec (.requestNotApplyingToObject r.code r.object r.env) s = .next s)

/-- A latch adds a pair or counts it up to 255, and sends one alert notice until READ_EVENTS ends alert pending.
(R161, R166, R167, R169, R173, R174, R193, section 12.1, section 10.3, section 12.2) -/
def Obligations.LatchCountsAndAlertsOnce : Prop :=
  (∀ (s : State) (kind : EventKind) (n : Nat), s.EventsSound →
    (if kind.device then n = 0 else 1 ≤ n ∧ n ≤ 64) →
    (s.dev.eventEnable.getLsbD (kind.number - 1) = false → s.latch kind n = s)
    ∧ (s.dev.eventEnable.getLsbD (kind.number - 1) = true → ∃ es : List EventEntry, ∃ c : Nat,
      (∀ e, e ∈ es ↔ e = ⟨kind, n, c⟩ ∨ (e ∈ s.ev.events ∧ ¬ (e.kind = kind ∧ e.stream = n)))
      ∧ es.Pairwise EventEntry.Before
      ∧ (∀ old, ⟨kind, n, old⟩ ∈ s.ev.events → c = min (old + 1) 255)
      ∧ ((∀ old, ⟨kind, n, old⟩ ∉ s.ev.events) → c = 1)
      ∧ ((s.dev.alertEnable.getLsbD (kind.number - 1) = false ∨ s.ev.alertPending = true
            ∨ s.ev.alertDest = none) →
          s.latch kind n = { s with ev := { s.ev with events := es } })
      ∧ (∀ d, s.dev.alertEnable.getLsbD (kind.number - 1) = true → s.ev.alertPending = false →
          s.ev.alertDest = some d →
          s.latch kind n = { s.modPort d.port fun l => l.hand
              { kind := .notice, dest := d.address, source := l.station, vlan := d.vlan, etherType := l.etherType,
                transport := [4, 1, s.dev.unit.getD 0, BitVec.ofNat 8 kind.number, BitVec.ofNat 8 n,
                  BitVec.ofNat 8 c] ++ toBytes 2 es.length } with
            ev := { s.ev with events := es, alertPending := true } })))
  ∧ ∀ (s : State) (k : StreamId) (a : StreamAlarm),
    ((s.stream k).alarms.get a = true → s.raise k a = s)
    ∧ ((s.stream k).alarms.get a = false → s.raise k a
        = (s.modStream k fun st => { st with alarms := st.alarms.set a true }).latch a.latches (k.val + 1))
end

