-- ==== Sys2Proof/Laws/State.lean ====
section
/-! SUPPORT. For each named operation over the state, the fields it leaves as they were, as one conjunction of
equations: the simplifier takes each equation as a rule of its own. -/

namespace Sys2Proof.Machine

/-! ### `modPort` changes the ports alone. -/

@[simp] theorem State.modPort_frame (s : State) (p : Port) (f : LinkPort → LinkPort) :
    (s.modPort p f).pending = s.pending ∧ (s.modPort p f).tb = s.tb ∧ (s.modPort p f).dev = s.dev
      ∧ (s.modPort p f).streams = s.streams ∧ (s.modPort p f).mem = s.mem ∧ (s.modPort p f).cover = s.cover
      ∧ (s.modPort p f).matrix = s.matrix ∧ (s.modPort p f).bus = s.bus ∧ (s.modPort p f).ev = s.ev
      ∧ (s.modPort p f).inProgress = s.inProgress ∧ (s.modPort p f).pins = s.pins ∧ (s.modPort p f).epoch = s.epoch
      ∧ (s.modPort p f).copyDue = s.copyDue := by
  cases p <;> simp only [State.modPort, and_self]

/-! ### `countPort` changes the ports alone. -/

@[simp] theorem State.countPort_frame (s : State) (p : Port) (f : PortCounters → PortCounters) :
    (s.countPort p f).pending = s.pending ∧ (s.countPort p f).tb = s.tb ∧ (s.countPort p f).dev = s.dev
      ∧ (s.countPort p f).streams = s.streams ∧ (s.countPort p f).mem = s.mem ∧ (s.countPort p f).cover = s.cover
      ∧ (s.countPort p f).matrix = s.matrix ∧ (s.countPort p f).bus = s.bus ∧ (s.countPort p f).ev = s.ev
      ∧ (s.countPort p f).inProgress = s.inProgress ∧ (s.countPort p f).pins = s.pins
      ∧ (s.countPort p f).epoch = s.epoch ∧ (s.countPort p f).copyDue = s.copyDue := by
  simp [State.countPort]

/-! ### `modStream` changes the streams alone. -/

@[simp] theorem State.modStream_frame (s : State) (k : StreamId) (f : Stream → Stream) :
    (s.modStream k f).pending = s.pending ∧ (s.modStream k f).tb = s.tb ∧ (s.modStream k f).dev = s.dev
      ∧ (s.modStream k f).mem = s.mem ∧ (s.modStream k f).cover = s.cover ∧ (s.modStream k f).matrix = s.matrix
      ∧ (s.modStream k f).bus = s.bus ∧ (s.modStream k f).ev = s.ev ∧ (s.modStream k f).inProgress = s.inProgress
      ∧ (s.modStream k f).pins = s.pins ∧ (s.modStream k f).epoch = s.epoch ∧ (s.modStream k f).copyDue = s.copyDue
      ∧ (s.modStream k f).portA = s.portA ∧ (s.modStream k f).portB = s.portB := by
  simp only [State.modStream, and_self]

/-! ### `mapStreams` changes the streams alone. -/

@[simp] theorem State.mapStreams_frame (s : State) (f : Stream → Stream) :
    (s.mapStreams f).pending = s.pending ∧ (s.mapStreams f).tb = s.tb ∧ (s.mapStreams f).dev = s.dev
      ∧ (s.mapStreams f).mem = s.mem ∧ (s.mapStreams f).cover = s.cover ∧ (s.mapStreams f).matrix = s.matrix
      ∧ (s.mapStreams f).bus = s.bus ∧ (s.mapStreams f).ev = s.ev ∧ (s.mapStreams f).inProgress = s.inProgress
      ∧ (s.mapStreams f).pins = s.pins ∧ (s.mapStreams f).epoch = s.epoch ∧ (s.mapStreams f).copyDue = s.copyDue
      ∧ (s.mapStreams f).portA = s.portA ∧ (s.mapStreams f).portB = s.portB := by
  simp only [State.mapStreams, and_self]

/-! ### `modStreams` changes the streams alone. -/

@[simp] theorem State.modStreams_frame (s : State) (ks : List StreamId) (f : Stream → Stream) :
    (s.modStreams ks f).pending = s.pending ∧ (s.modStreams ks f).tb = s.tb ∧ (s.modStreams ks f).dev = s.dev
      ∧ (s.modStreams ks f).mem = s.mem ∧ (s.modStreams ks f).cover = s.cover ∧ (s.modStreams ks f).matrix = s.matrix
      ∧ (s.modStreams ks f).bus = s.bus ∧ (s.modStreams ks f).ev = s.ev
      ∧ (s.modStreams ks f).inProgress = s.inProgress ∧ (s.modStreams ks f).pins = s.pins
      ∧ (s.modStreams ks f).epoch = s.epoch ∧ (s.modStreams ks f).copyDue = s.copyDue
      ∧ (s.modStreams ks f).portA = s.portA ∧ (s.modStreams ks f).portB = s.portB := by
  simp only [State.modStreams, and_self]

/-! ### `setAlarm` changes the streams alone. -/

@[simp] theorem State.setAlarm_frame (s : State) (k : StreamId) (a : StreamAlarm) (v : Bool) :
    (s.setAlarm k a v).pending = s.pending ∧ (s.setAlarm k a v).tb = s.tb ∧ (s.setAlarm k a v).dev = s.dev
      ∧ (s.setAlarm k a v).mem = s.mem ∧ (s.setAlarm k a v).cover = s.cover ∧ (s.setAlarm k a v).matrix = s.matrix
      ∧ (s.setAlarm k a v).bus = s.bus ∧ (s.setAlarm k a v).ev = s.ev ∧ (s.setAlarm k a v).inProgress = s.inProgress
      ∧ (s.setAlarm k a v).pins = s.pins ∧ (s.setAlarm k a v).epoch = s.epoch
      ∧ (s.setAlarm k a v).copyDue = s.copyDue ∧ (s.setAlarm k a v).portA = s.portA
      ∧ (s.setAlarm k a v).portB = s.portB := by
  simp only [State.setAlarm, State.modStream, and_self]

/-! ### `clearAlarm` changes the streams alone. -/

@[simp] theorem State.clearAlarm_frame (s : State) (k : StreamId) (a : StreamAlarm) :
    (s.clearAlarm k a).pending = s.pending ∧ (s.clearAlarm k a).tb = s.tb ∧ (s.clearAlarm k a).dev = s.dev
      ∧ (s.clearAlarm k a).mem = s.mem ∧ (s.clearAlarm k a).cover = s.cover ∧ (s.clearAlarm k a).matrix = s.matrix
      ∧ (s.clearAlarm k a).bus = s.bus ∧ (s.clearAlarm k a).ev = s.ev ∧ (s.clearAlarm k a).inProgress = s.inProgress
      ∧ (s.clearAlarm k a).pins = s.pins ∧ (s.clearAlarm k a).epoch = s.epoch
      ∧ (s.clearAlarm k a).copyDue = s.copyDue ∧ (s.clearAlarm k a).portA = s.portA
      ∧ (s.clearAlarm k a).portB = s.portB := by
  simp only [State.clearAlarm, State.setAlarm, State.modStream, and_self]

/-! ### `clearRefLost` changes the alarm and event unit alone. -/

@[simp] theorem State.clearRefLost_frame (s : State) :
    (s.clearRefLost).pending = s.pending ∧ (s.clearRefLost).tb = s.tb ∧ (s.clearRefLost).dev = s.dev
      ∧ (s.clearRefLost).streams = s.streams ∧ (s.clearRefLost).mem = s.mem ∧ (s.clearRefLost).cover = s.cover
      ∧ (s.clearRefLost).matrix = s.matrix ∧ (s.clearRefLost).bus = s.bus
      ∧ (s.clearRefLost).inProgress = s.inProgress ∧ (s.clearRefLost).pins = s.pins
      ∧ (s.clearRefLost).epoch = s.epoch ∧ (s.clearRefLost).copyDue = s.copyDue ∧ (s.clearRefLost).portA = s.portA
      ∧ (s.clearRefLost).portB = s.portB := by
  simp only [State.clearRefLost, and_self]

/-! ### `offerAlert` changes the alarm and event unit and the ports alone. -/

@[simp] theorem State.offerAlert_frame (s : State) (kind : EventKind) (n : Nat) :
    (s.offerAlert kind n).pending = s.pending ∧ (s.offerAlert kind n).tb = s.tb ∧ (s.offerAlert kind n).dev = s.dev
      ∧ (s.offerAlert kind n).streams = s.streams ∧ (s.offerAlert kind n).mem = s.mem
      ∧ (s.offerAlert kind n).cover = s.cover ∧ (s.offerAlert kind n).matrix = s.matrix
      ∧ (s.offerAlert kind n).bus = s.bus ∧ (s.offerAlert kind n).inProgress = s.inProgress
      ∧ (s.offerAlert kind n).pins = s.pins ∧ (s.offerAlert kind n).epoch = s.epoch
      ∧ (s.offerAlert kind n).copyDue = s.copyDue := by
  unfold State.offerAlert; repeat' split
  all_goals simp

/-! ### `latch` changes the alarm and event unit and the ports alone. -/

@[simp] theorem State.latch_frame (s : State) (kind : EventKind) (n : Nat) :
    (s.latch kind n).pending = s.pending ∧ (s.latch kind n).tb = s.tb ∧ (s.latch kind n).dev = s.dev
      ∧ (s.latch kind n).streams = s.streams ∧ (s.latch kind n).mem = s.mem ∧ (s.latch kind n).cover = s.cover
      ∧ (s.latch kind n).matrix = s.matrix ∧ (s.latch kind n).bus = s.bus
      ∧ (s.latch kind n).inProgress = s.inProgress ∧ (s.latch kind n).pins = s.pins
      ∧ (s.latch kind n).epoch = s.epoch ∧ (s.latch kind n).copyDue = s.copyDue := by
  unfold State.latch; split <;> simp

/-! ### `raise` changes the streams, the alarm and event unit and the ports alone. -/

@[simp] theorem State.raise_frame (s : State) (k : StreamId) (a : StreamAlarm) :
    (s.raise k a).pending = s.pending ∧ (s.raise k a).tb = s.tb ∧ (s.raise k a).dev = s.dev
      ∧ (s.raise k a).mem = s.mem ∧ (s.raise k a).cover = s.cover ∧ (s.raise k a).matrix = s.matrix
      ∧ (s.raise k a).bus = s.bus ∧ (s.raise k a).inProgress = s.inProgress ∧ (s.raise k a).pins = s.pins
      ∧ (s.raise k a).epoch = s.epoch ∧ (s.raise k a).copyDue = s.copyDue := by
  unfold State.raise; split <;> simp

/-! ### `raiseRefLost` changes the alarm and event unit and the ports alone. -/

@[simp] theorem State.raiseRefLost_frame (s : State) :
    (s.raiseRefLost).pending = s.pending ∧ (s.raiseRefLost).tb = s.tb ∧ (s.raiseRefLost).dev = s.dev
      ∧ (s.raiseRefLost).streams = s.streams ∧ (s.raiseRefLost).mem = s.mem ∧ (s.raiseRefLost).cover = s.cover
      ∧ (s.raiseRefLost).matrix = s.matrix ∧ (s.raiseRefLost).bus = s.bus
      ∧ (s.raiseRefLost).inProgress = s.inProgress ∧ (s.raiseRefLost).pins = s.pins
      ∧ (s.raiseRefLost).epoch = s.epoch ∧ (s.raiseRefLost).copyDue = s.copyDue := by
  unfold State.raiseRefLost; split <;> simp

/-! ### `relock` changes the streams, the alarm and event unit and the ports alone. -/

@[simp] theorem State.relock_frame (s : State) (k : StreamId) :
    (s.relock k).pending = s.pending ∧ (s.relock k).tb = s.tb ∧ (s.relock k).dev = s.dev ∧ (s.relock k).mem = s.mem
      ∧ (s.relock k).cover = s.cover ∧ (s.relock k).matrix = s.matrix ∧ (s.relock k).bus = s.bus
      ∧ (s.relock k).inProgress = s.inProgress ∧ (s.relock k).pins = s.pins ∧ (s.relock k).epoch = s.epoch
      ∧ (s.relock k).copyDue = s.copyDue := by simp [State.relock]

/-! ### `answer` changes the ports alone. -/

@[simp] theorem State.answer_frame (s : State) (r : Request) (res : Result) (data : List Byte) :
    (s.answer r res data).pending = s.pending ∧ (s.answer r res data).tb = s.tb ∧ (s.answer r res data).dev = s.dev
      ∧ (s.answer r res data).streams = s.streams ∧ (s.answer r res data).mem = s.mem
      ∧ (s.answer r res data).cover = s.cover ∧ (s.answer r res data).matrix = s.matrix
      ∧ (s.answer r res data).bus = s.bus ∧ (s.answer r res data).ev = s.ev
      ∧ (s.answer r res data).inProgress = s.inProgress ∧ (s.answer r res data).pins = s.pins
      ∧ (s.answer r res data).epoch = s.epoch ∧ (s.answer r res data).copyDue = s.copyDue := by
  unfold State.answer; split <;> simp

/-! ### `take` changes the ports and the alarm and event unit alone. -/

@[simp] theorem State.take_frame (s : State) (r : Request) :
    (s.take r).pending = s.pending ∧ (s.take r).tb = s.tb ∧ (s.take r).dev = s.dev ∧ (s.take r).streams = s.streams
      ∧ (s.take r).mem = s.mem ∧ (s.take r).cover = s.cover ∧ (s.take r).matrix = s.matrix ∧ (s.take r).bus = s.bus
      ∧ (s.take r).inProgress = s.inProgress ∧ (s.take r).pins = s.pins ∧ (s.take r).epoch = s.epoch
      ∧ (s.take r).copyDue = s.copyDue := by
  unfold State.take; split <;> simp

end Sys2Proof.Machine
end

