-- ==== Sys2Proof/Laws/Ports.lean ====
section
/-! SUPPORT. Ports: what a hand-over, a reply, a count and the taking of a request do, field by field. -/

namespace Sys2Proof.Machine

/-! ### One port of the two -/

@[simp] theorem State.port_a (s : State) : s.port .a = s.portA := rfl

@[simp] theorem State.port_b (s : State) : s.port .b = s.portB := rfl

@[simp] theorem State.port_modPort_same (s : State) (p : Port) (f : LinkPort → LinkPort) :
    (s.modPort p f).port p = f (s.port p) := by cases p <;> rfl

theorem State.port_modPort_other (s : State) {p q : Port} (f : LinkPort → LinkPort) (h : q ≠ p) :
    (s.modPort p f).port q = s.port q := by cases p <;> cases q <;> first | rfl | exact absurd rfl h

/-- A property that the change keeps at its port holds at both ports after the change. -/
theorem State.forall_port_modPort {P : LinkPort → Prop} {s : State} (p : Port) {f : LinkPort → LinkPort}
    (h : ∀ q, P (s.port q)) (hf : P (s.port p) → P (f (s.port p))) : ∀ q, P ((s.modPort p f).port q) := by
  intro q
  by_cases hq : q = p
  · subst hq
    simpa using hf (h q)
  · rw [State.port_modPort_other s f hq]
    exact h q

/-- Two states with the same two ports agree at every port. -/
theorem State.port_congr {s t : State} (ha : t.portA = s.portA) (hb : t.portB = s.portB) (p : Port) :
    t.port p = s.port p := by cases p <;> assumption

/-! ### Handing a frame to a port (R3, R12) -/

@[simp] theorem LinkPort.hand_station (l : LinkPort) (f : TxFrame) : (l.hand f).station = l.station := by
  unfold LinkPort.hand; split <;> rfl

@[simp] theorem LinkPort.hand_etherType (l : LinkPort) (f : TxFrame) : (l.hand f).etherType = l.etherType := by
  unfold LinkPort.hand; split <;> rfl

@[simp] theorem LinkPort.hand_linkUp (l : LinkPort) (f : TxFrame) : (l.hand f).linkUp = l.linkUp := by
  unfold LinkPort.hand; split <;> rfl

@[simp] theorem LinkPort.hand_counters (l : LinkPort) (f : TxFrame) : (l.hand f).counters = l.counters := by
  unfold LinkPort.hand; split <;> rfl

/-- A frame handed to a port with its link UP and room in its queue joins the queue, and changes nothing else. -/
theorem LinkPort.hand_joins {l : LinkPort} (f : TxFrame) (hu : l.linkUp = true) (hq : l.queue.length < 4) :
    l.hand f = { l with queue := l.queue ++ [f] } := by simp [LinkPort.hand, hu, hq]

/-- A frame handed to a port whose link is DOWN or whose queue is full is lost. -/
theorem LinkPort.hand_lost {l : LinkPort} (f : TxFrame) (h : l.linkUp = false ∨ 4 ≤ l.queue.length) :
    l.hand f = l := by
  unfold LinkPort.hand
  rcases h with h | h
  · simp [h]
  · rw [if_neg]
    simp only [Bool.and_eq_true, decide_eq_true_eq, not_and]
    omega

/-- A hand-over leaves at most 4 frames in a queue that held at most 4. -/
theorem LinkPort.hand_length {l : LinkPort} (f : TxFrame) (h : l.queue.length ≤ 4) :
    (l.hand f).queue.length ≤ 4 := by
  unfold LinkPort.hand
  split
  · rename_i hc
    simp only [Bool.and_eq_true, decide_eq_true_eq] at hc
    simp only [List.length_append, List.length_cons, List.length_nil]
    omega
  · exact h

/-! ### Replies and the taking of a request -/

/-- A general request is not answered. -/
theorem State.answer_general {s : State} {r : Request} (h : r.general = true) (res : Result) (data : List Byte) :
    s.answer r res data = s := by simp [State.answer, h]

/-- An addressed request's reply is handed to the port it came in on. -/
theorem State.answer_addressed {s : State} {r : Request} (h : r.general = false) (res : Result) (data : List Byte) :
    s.answer r res data = s.modPort r.env.port fun l => l.hand (s.replyFrame r res data) := by simp [State.answer, h]

@[simp] theorem State.stream_answer (s : State) (r : Request) (res : Result) (data : List Byte) (k : StreamId) :
    (s.answer r res data).stream k = s.stream k := by simp [State.stream]

@[simp] theorem State.stream_take (s : State) (r : Request) (k : StreamId) :
    (s.take r).stream k = s.stream k := by simp [State.stream]

/-- A reply changes a port by a hand-over, or not at all. -/
theorem State.port_answer (s : State) (r : Request) (res : Result) (data : List Byte) (p : Port) :
    (s.answer r res data).port p = s.port p ∨ ∃ f, (s.answer r res data).port p = (s.port p).hand f := by
  cases hg : r.general
  · rw [State.answer_addressed hg]
    by_cases hp : p = r.env.port
    · subst hp
      exact .inr ⟨_, State.port_modPort_same _ _ _⟩
    · exact .inl (State.port_modPort_other _ _ hp)
  · exact .inl (by rw [State.answer_general hg])

/-- The taking of a request changes the counters of a port alone. -/
theorem State.port_take (s : State) (r : Request) (p : Port) :
    (s.take r).port p = s.port p ∨ ∃ c, (s.take r).port p = { s.port p with counters := c } := by
  unfold State.take State.countPort
  by_cases hp : p = r.env.port
  · refine .inr ⟨{ (s.port p).counters with
      requestsAccepted := Counter.inc (s.port p).counters.requestsAccepted }, ?_⟩
    subst hp
    cases hq : r.env.port <;> split <;> simp_all [State.modPort, State.port]
  · refine .inl ?_
    cases hq : r.env.port <;> cases p <;> simp_all <;> split <;> simp [State.modPort]

/-- The taking of a request leaves the event set, the alert state and REF_LOST. -/
@[simp] theorem State.take_events (s : State) (r : Request) : (s.take r).ev.events = s.ev.events := by
  unfold State.take; split <;> simp [State.countPort]

@[simp] theorem State.take_alertPending (s : State) (r : Request) : (s.take r).ev.alertPending = s.ev.alertPending := by
  unfold State.take; split <;> simp [State.countPort]

@[simp] theorem State.take_refLost (s : State) (r : Request) : (s.take r).ev.refLost = s.ev.refLost := by
  unfold State.take; split <;> simp [State.countPort]

/-- A served request sets the alert destination when it is addressed, and leaves it when it is general (R172, R179). -/
theorem State.take_alertDest (s : State) (r : Request) :
    (s.take r).ev.alertDest = if r.general then s.ev.alertDest else some r.alertDest := by
  unfold State.take; split <;> simp_all [State.countPort]

end Sys2Proof.Machine
end

