-- ==== Sys2Proof/Laws/Events.lean ====
section
/-! SUPPORT. The event set and the alert state: what one latch does (R166, R167, R173), and that the event set keeps its
order and its counts. -/

namespace Sys2Proof.Machine

/-! ### The event set -/

/-- A pair's key names the pair, for the streams the manual has. -/
theorem eventKey_inj {k k' : EventKind} {n n' : Nat} (hn : n ≤ 64) (hn' : n' ≤ 64)
    (h : eventKey k n = eventKey k' n') : k = k' ∧ n = n' := by
  unfold eventKey at h
  have hp : k.priority = k'.priority := by omega
  refine ⟨?_, by omega⟩
  cases k <;> cases k' <;> first | rfl | exact absurd hp (by decide)

/-- What the event set holds after a latch: the latched pair with some count, and pairs it held before. -/
theorem mem_latchInto {kind : EventKind} {n : Nat} {events : List EventEntry} {e : EventEntry}
    (h : e ∈ latchInto kind n events) :
    (e.kind = kind ∧ e.stream = n ∧ (e.count = 1 ∨ ∃ d ∈ events, e.count = min (d.count + 1) 255)) ∨ e ∈ events := by
  induction events with
  | nil =>
    simp only [latchInto, List.mem_cons, List.not_mem_nil, or_false] at h
    subst h
    exact .inl ⟨rfl, rfl, .inl rfl⟩
  | cons d rest ih =>
    simp only [latchInto] at h
    split at h
    · rename_i hd
      rcases List.mem_cons.mp h with rfl | h
      · exact .inl ⟨hd.1, hd.2, .inr ⟨d, List.mem_cons_self .., rfl⟩⟩
      · exact .inr (List.mem_cons_of_mem _ h)
    · split at h
      · rcases List.mem_cons.mp h with rfl | h
        · exact .inl ⟨rfl, rfl, .inl rfl⟩
        · exact .inr h
      · rcases List.mem_cons.mp h with rfl | h
        · exact .inr (List.mem_cons_self ..)
        · rcases ih h with ⟨hk, hs, hc⟩ | h
          · refine .inl ⟨hk, hs, hc.imp_right ?_⟩
            rintro ⟨x, hx, hc⟩
            exact ⟨x, List.mem_cons_of_mem _ hx, hc⟩
          · exact .inr (List.mem_cons_of_mem _ h)

/-- The keys of the entries after a latch are the latched pair's and those from before. -/
theorem key_mem_latchInto {kind : EventKind} {n : Nat} {events : List EventEntry} {e : EventEntry}
    (h : e ∈ latchInto kind n events) : e.key = eventKey kind n ∨ e ∈ events := by
  rcases mem_latchInto h with ⟨hk, hs, -⟩ | h
  · exact .inl (by simp [EventEntry.key, hk, hs])
  · exact .inr h

/-- A latch keeps the order of R169, in a set whose streams are those the manual has. -/
theorem pairwise_latchInto {kind : EventKind} {n : Nat} (hn : n ≤ 64) {events : List EventEntry}
    (hs : ∀ e ∈ events, e.stream ≤ 64) (h : events.Pairwise fun a b => a.key < b.key) :
    (latchInto kind n events).Pairwise fun a b => a.key < b.key := by
  induction events with
  | nil => simp [latchInto]
  | cons d rest ih =>
    obtain ⟨hd, hr⟩ := List.pairwise_cons.mp h
    simp only [latchInto]
    split
    · exact List.pairwise_cons.mpr ⟨hd, hr⟩
    · split
      · rename_i hlt
        refine List.pairwise_cons.mpr ⟨?_, h⟩
        intro a ha
        rcases List.mem_cons.mp ha with rfl | ha
        · exact hlt
        · exact Nat.lt_trans hlt (hd a ha)
      · rename_i hne hge
        refine List.pairwise_cons.mpr ⟨?_, ih (fun e he => hs e (List.mem_cons_of_mem _ he)) hr⟩
        intro a ha
        rcases key_mem_latchInto ha with hk | ha
        · rw [hk]
          rcases Nat.lt_or_ge d.key (eventKey kind n) with hlt | hge'
          · exact hlt
          · have heq : d.key = eventKey kind n := Nat.le_antisymm (Nat.le_of_not_lt hge) hge'
            exact absurd (eventKey_inj (hs d (List.mem_cons_self ..)) hn heq) hne
        · exact hd a ha

/-- After a latch the latched pair is pending, with one occurrence more than before, saturating at 255 (R166, R167). -/
theorem pendingCount_latchInto_same (kind : EventKind) (n : Nat) {events : List EventEntry}
    (h : events.Pairwise fun a b => a.key < b.key) :
    pendingCount kind n (latchInto kind n events) = min (pendingCount kind n events + 1) 255 := by
  induction events with
  | nil => simp [latchInto, pendingCount]
  | cons d rest ih =>
    obtain ⟨hd, hr⟩ := List.pairwise_cons.mp h
    simp only [latchInto]
    split
    · rename_i hc
      simp [pendingCount, hc.1, hc.2]
    · rename_i hc
      split
      · rename_i hlt
        have hnone : (d :: rest).find? (fun e => decide (e.kind = kind ∧ e.stream = n)) = none := by
          rw [List.find?_eq_none]
          intro e he
          simp only [decide_eq_true_eq]
          rintro ⟨rfl, rfl⟩
          rcases List.mem_cons.mp he with rfl | he
          · exact absurd ⟨rfl, rfl⟩ hc
          · have h1 : d.key < e.key := hd e he
            have h2 : e.key < d.key := hlt
            omega
        simp only [pendingCount, hnone]
        simp
      · have hstep : ∀ l, pendingCount kind n (d :: l) = pendingCount kind n l := by
          intro l
          simp [pendingCount, hc]
        rw [hstep, hstep, ih hr]

/-- A latch leaves the count of every other pair. -/
theorem pendingCount_latchInto_other {kind kind' : EventKind} {n n' : Nat} (events : List EventEntry)
    (h : ¬(kind' = kind ∧ n' = n)) : pendingCount kind' n' (latchInto kind n events) = pendingCount kind' n' events := by
  have hnew : ¬(kind = kind' ∧ n = n') := fun ⟨a, b⟩ => h ⟨a.symm, b.symm⟩
  induction events with
  | nil => simp [latchInto, pendingCount, hnew]
  | cons d rest ih =>
    simp only [latchInto]
    split
    · rename_i hd
      have : ¬(d.kind = kind' ∧ d.stream = n') := by rw [hd.1, hd.2]; exact hnew
      simp [pendingCount, this]
    · split
      · simp only [pendingCount, List.find?_cons]
        simp [hnew]
      · by_cases hd : d.kind = kind' ∧ d.stream = n'
        · simp [pendingCount, hd]
        · have hstep : ∀ l, pendingCount kind' n' (d :: l) = pendingCount kind' n' l := by
            intro l
            simp [pendingCount, hd]
          rw [hstep, hstep, ih]

/-! ### One latch (R166, R173) -/

/-- A latch whose event-enable bit is clear is disregarded. -/
theorem State.latch_disabled {s : State} {kind : EventKind} (n : Nat)
    (h : s.dev.eventEnable.getLsbD (kind.priority - 1) = false) : s.latch kind n = s := by simp [State.latch, h]

/-- The event set after a latch. -/
theorem State.latch_events (s : State) (kind : EventKind) (n : Nat) :
    (s.latch kind n).ev.events =
      if s.dev.eventEnable.getLsbD (kind.priority - 1) then latchInto kind n s.ev.events else s.ev.events := by
  unfold State.latch State.offerAlert
  repeat' split
  all_goals simp

@[simp] theorem State.latch_refLost (s : State) (kind : EventKind) (n : Nat) :
    (s.latch kind n).ev.refLost = s.ev.refLost := by
  unfold State.latch State.offerAlert
  repeat' split
  all_goals simp

@[simp] theorem State.latch_alertDest (s : State) (kind : EventKind) (n : Nat) :
    (s.latch kind n).ev.alertDest = s.ev.alertDest := by
  unfold State.latch State.offerAlert
  repeat' split
  all_goals simp

/-- A latch changes a port by a hand-over, or not at all. -/
theorem State.port_latch (s : State) (kind : EventKind) (n : Nat) (p : Port) :
    (s.latch kind n).port p = s.port p ∨ ∃ f, (s.latch kind n).port p = (s.port p).hand f := by
  unfold State.latch State.offerAlert
  split
  · split
    · split
      · left; cases p <;> rfl
      · rename_i d _
        obtain ⟨address, port, vlan⟩ := d
        cases port <;> cases p <;> first | exact .inl rfl | exact .inr ⟨_, rfl⟩
    · left; cases p <;> rfl
  · exact .inl rfl

@[simp] theorem State.stream_latch (s : State) (kind : EventKind) (n : Nat) (k : StreamId) :
    (s.latch kind n).stream k = s.stream k := by simp [State.stream]

/-- The raise of REF_LOST sets its flag. -/
@[simp] theorem State.raiseRefLost_refLost (s : State) : s.raiseRefLost.ev.refLost = true := by
  unfold State.raiseRefLost
  split
  · assumption
  · simp

/-- The raise of REF_LOST is a latch into a state that differs in the flag alone, or nothing. -/
theorem State.raiseRefLost_cases (s : State) :
    s.raiseRefLost = s ∨ s.raiseRefLost = State.latch { s with ev := { s.ev with refLost := true } } .refLost 0 := by
  unfold State.raiseRefLost
  split
  · exact .inl rfl
  · exact .inr rfl

end Sys2Proof.Machine
end

