-- ==== Sys2Proof/Laws/Streams.lean ====
section
/-! SUPPORT. Streams: reading a stream after a change, and what raising, clearing and relocking do to one stream and to the
others. -/

namespace Sys2Proof.Machine

/-! ### One stream of the table -/

@[simp] theorem State.stream_modStream_same (s : State) (k : StreamId) (f : Stream → Stream) :
    (s.modStream k f).stream k = f (s.stream k) := by simp [State.stream, State.modStream]

theorem State.stream_modStream_other (s : State) {k j : StreamId} (f : Stream → Stream) (h : j ≠ k) :
    (s.modStream k f).stream j = s.stream j := by
  have : k.val ≠ j.val := fun e => h (Fin.ext e.symm)
  simp [State.stream, State.modStream, this]

/-- A stream after a change of one stream. -/
theorem State.stream_modStream (s : State) (k j : StreamId) (f : Stream → Stream) :
    (s.modStream k f).stream j = if j = k then f (s.stream k) else s.stream j := by
  by_cases h : j = k
  · subst h; simp
  · rw [if_neg h, State.stream_modStream_other s f h]

@[simp] theorem State.stream_mapStreams (s : State) (k : StreamId) (f : Stream → Stream) :
    (s.mapStreams f).stream k = f (s.stream k) := by simp [State.stream, State.mapStreams]

/-- A stream after a change of the named streams. -/
theorem State.stream_modStreams (s : State) (ks : List StreamId) (f : Stream → Stream) (j : StreamId) :
    (s.modStreams ks f).stream j = if j ∈ ks then f (s.stream j) else s.stream j := by
  simp [State.stream, State.modStreams]

/-- Two states with the same table of streams agree on every stream. -/
theorem State.stream_congr {s t : State} (h : t.streams = s.streams) (k : StreamId) : t.stream k = s.stream k := by
  simp [State.stream, h]

/-- Two changes of one stream in a row are one change. -/
@[simp] theorem State.modStream_modStream (s : State) (k : StreamId) (f g : Stream → Stream) :
    (s.modStream k f).modStream k g = s.modStream k fun st => g (f st) := by
  simp [State.modStream, Vector.set_set]

@[simp] theorem State.stream_modPort (s : State) (p : Port) (f : LinkPort → LinkPort) (k : StreamId) :
    (s.modPort p f).stream k = s.stream k := by simp [State.stream]

@[simp] theorem State.stream_countPort (s : State) (p : Port) (f : PortCounters → PortCounters) (k : StreamId) :
    (s.countPort p f).stream k = s.stream k := by simp [State.stream]

@[simp] theorem State.port_modStream (s : State) (k : StreamId) (f : Stream → Stream) (p : Port) :
    (s.modStream k f).port p = s.port p := by cases p <;> rfl

@[simp] theorem State.port_mapStreams (s : State) (f : Stream → Stream) (p : Port) :
    (s.mapStreams f).port p = s.port p := by cases p <;> rfl

@[simp] theorem State.port_modStreams (s : State) (ks : List StreamId) (f : Stream → Stream) (p : Port) :
    (s.modStreams ks f).port p = s.port p := by cases p <;> simp

/-! ### Paths -/

@[simp] theorem Stream.path_modPath_same (st : Stream) (p : Port) (f : PathContext → PathContext) :
    (st.modPath p f).path p = f (st.path p) := by cases p <;> rfl

theorem Stream.path_modPath_other (st : Stream) {p q : Port} (f : PathContext → PathContext) (h : q ≠ p) :
    (st.modPath p f).path q = st.path q := by cases p <;> cases q <;> first | rfl | exact absurd rfl h

/-! ### Raising and clearing (R161) -/

theorem State.stream_setAlarm (s : State) (k j : StreamId) (a : StreamAlarm) (v : Bool) :
    (s.setAlarm k a v).stream j =
      if j = k then { s.stream k with alarms := (s.stream k).alarms.set a v } else s.stream j := by
  rw [State.setAlarm, State.stream_modStream]

/-- A raise sets the alarm of its stream and changes no other part of any stream. -/
theorem State.stream_raise (s : State) (k j : StreamId) (a : StreamAlarm) :
    (s.raise k a).stream j =
      if j = k then { s.stream k with alarms := (s.stream k).alarms.set a true } else s.stream j := by
  unfold State.raise
  split
  · rename_i h
    split
    · rename_i hj
      subst hj
      have : (s.stream j).alarms.set a true = (s.stream j).alarms := by
        cases a <;> simp_all [AlarmFlags.get, AlarmFlags.set] <;> (rw [← h])
      rw [this]
    · rfl
  · rw [State.stream_latch, State.stream_setAlarm]

/-- A clear takes the alarm of its stream out of the set and changes no other part of any stream. -/
theorem State.stream_clearAlarm (s : State) (k j : StreamId) (a : StreamAlarm) :
    (s.clearAlarm k a).stream j =
      if j = k then { s.stream k with alarms := (s.stream k).alarms.set a false } else s.stream j :=
  State.stream_setAlarm s k j a false

@[simp] theorem AlarmFlags.get_set_same (f : AlarmFlags) (a : StreamAlarm) (v : Bool) : (f.set a v).get a = v := by
  cases a <;> rfl

theorem AlarmFlags.get_set_other (f : AlarmFlags) {a b : StreamAlarm} (v : Bool) (h : b ≠ a) :
    (f.set a v).get b = f.get b := by cases a <;> cases b <;> first | rfl | exact absurd rfl h

/-- A raise of an alarm that is active does nothing; of one that is not, it latches the alarm's event. -/
theorem State.raise_cases (s : State) (k : StreamId) (a : StreamAlarm) :
    ((s.stream k).alarms.get a = true ∧ s.raise k a = s) ∨
      ((s.stream k).alarms.get a = false ∧ s.raise k a = (s.setAlarm k a true).latch a.event k.number) := by
  unfold State.raise
  split
  · exact .inl ⟨by assumption, rfl⟩
  · exact .inr ⟨by simp_all, rfl⟩

/-- A raise changes a port by a hand-over, or not at all. -/
theorem State.port_raise (s : State) (k : StreamId) (a : StreamAlarm) (p : Port) :
    (s.raise k a).port p = s.port p ∨ ∃ f, (s.raise k a).port p = (s.port p).hand f := by
  rcases s.raise_cases k a with ⟨-, h⟩ | ⟨-, h⟩
  · exact .inl (by rw [h])
  · rw [h]
    have := (s.setAlarm k a true).port_latch a.event k.number p
    simpa [State.setAlarm] using this

/-! ### Relocking (R73) -/

/-- A relock puts its stream in ACQUIRE with nothing held for the old lock and STARVED inactive, and changes no other
stream. -/
theorem State.stream_relock (s : State) (k j : StreamId) :
    (s.relock k).stream j =
      if j = k then
        { (s.stream k).relocked with alarms := (s.stream k).alarms.set .starved false }
      else s.stream j := by
  rw [State.relock, State.stream_latch, State.stream_clearAlarm]
  split
  · simp [Stream.relocked]
  · rename_i h
    rw [State.stream_modStream_other _ _ h]

/-- A relock changes a port by a hand-over, or not at all. -/
theorem State.port_relock (s : State) (k : StreamId) (p : Port) :
    (s.relock k).port p = s.port p ∨ ∃ f, (s.relock k).port p = (s.port p).hand f := by
  have := ((s.modStream k Stream.relocked).clearAlarm k .starved).port_latch .relocked k.number p
  simpa [State.relock, State.clearAlarm, State.setAlarm] using this

/-! ### Arithmetic of the model -/

/-- A clamp lies between its ends. -/
theorem clamp_bounds {lo hi : Int} (h : lo ≤ hi) (x : Int) : lo ≤ clamp lo hi x ∧ clamp lo hi x ≤ hi := by
  unfold clamp; omega

/-- A clamp of a value in range is the value. -/
theorem clamp_of_mem {lo hi x : Int} (h1 : lo ≤ x) (h2 : x ≤ hi) : clamp lo hi x = x := by
  unfold clamp; omega

/-- A counter's advance by one, as a number: it saturates. -/
theorem Counter.inc_toNat (c : Counter) : (Counter.inc c).toNat = min (c.toNat + 1) 4294967295 := by
  have h : min (c.toNat + 1) 4294967295 < 2 ^ 32 := by omega
  simp only [Counter.inc, Counter.add, BitVec.toNat_ofNat]
  exact Nat.mod_eq_of_lt h

end Sys2Proof.Machine
end

