-- ==== Sys2Proof/Laws/Frames.lean ====
section
/-! SUPPORT. For each block's work, the fields of the state it leaves as they were, as one conjunction of equations. -/

namespace Sys2Proof.Machine

/-! ### The monitor unit and servo -/

@[simp] theorem State.clearPathDown_frame (s : State) (k : StreamId) (p : Port) :
    (s.clearPathDown k p).pending = s.pending ∧ (s.clearPathDown k p).tb = s.tb ∧ (s.clearPathDown k p).dev = s.dev
      ∧ (s.clearPathDown k p).mem = s.mem ∧ (s.clearPathDown k p).cover = s.cover
      ∧ (s.clearPathDown k p).matrix = s.matrix ∧ (s.clearPathDown k p).bus = s.bus ∧ (s.clearPathDown k p).ev = s.ev
      ∧ (s.clearPathDown k p).inProgress = s.inProgress ∧ (s.clearPathDown k p).pins = s.pins
      ∧ (s.clearPathDown k p).epoch = s.epoch ∧ (s.clearPathDown k p).copyDue = s.copyDue
      ∧ (s.clearPathDown k p).portA = s.portA ∧ (s.clearPathDown k p).portB = s.portB := by
  unfold State.clearPathDown; split <;> simp

@[simp] theorem State.advancePath_frame (s : State) (k : StreamId) (p : Port) :
    (s.advancePath k p).pending = s.pending ∧ (s.advancePath k p).tb = s.tb ∧ (s.advancePath k p).dev = s.dev
      ∧ (s.advancePath k p).mem = s.mem ∧ (s.advancePath k p).cover = s.cover ∧ (s.advancePath k p).matrix = s.matrix
      ∧ (s.advancePath k p).bus = s.bus ∧ (s.advancePath k p).inProgress = s.inProgress
      ∧ (s.advancePath k p).pins = s.pins ∧ (s.advancePath k p).epoch = s.epoch
      ∧ (s.advancePath k p).copyDue = s.copyDue := by
  unfold State.advancePath; repeat' split
  all_goals simp

@[simp] theorem State.endSilence_frame (s : State) (k : StreamId) :
    (s.endSilence k).pending = s.pending ∧ (s.endSilence k).tb = s.tb ∧ (s.endSilence k).dev = s.dev
      ∧ (s.endSilence k).mem = s.mem ∧ (s.endSilence k).cover = s.cover ∧ (s.endSilence k).matrix = s.matrix
      ∧ (s.endSilence k).bus = s.bus ∧ (s.endSilence k).ev = s.ev ∧ (s.endSilence k).inProgress = s.inProgress
      ∧ (s.endSilence k).pins = s.pins ∧ (s.endSilence k).epoch = s.epoch ∧ (s.endSilence k).copyDue = s.copyDue
      ∧ (s.endSilence k).portA = s.portA ∧ (s.endSilence k).portB = s.portB := by
  unfold State.endSilence; split <;> simp

@[simp] theorem State.testPeak_frame (s : State) (k : StreamId) (st : Stream) :
    (s.testPeak k st).pending = s.pending ∧ (s.testPeak k st).tb = s.tb ∧ (s.testPeak k st).dev = s.dev
      ∧ (s.testPeak k st).mem = s.mem ∧ (s.testPeak k st).cover = s.cover ∧ (s.testPeak k st).matrix = s.matrix
      ∧ (s.testPeak k st).bus = s.bus ∧ (s.testPeak k st).inProgress = s.inProgress ∧ (s.testPeak k st).pins = s.pins
      ∧ (s.testPeak k st).epoch = s.epoch ∧ (s.testPeak k st).copyDue = s.copyDue := by
  unfold State.testPeak; repeat' split
  all_goals simp

@[simp] theorem State.closePeak_frame (s : State) (k : StreamId) :
    (s.closePeak k).pending = s.pending ∧ (s.closePeak k).tb = s.tb ∧ (s.closePeak k).dev = s.dev
      ∧ (s.closePeak k).mem = s.mem ∧ (s.closePeak k).cover = s.cover ∧ (s.closePeak k).matrix = s.matrix
      ∧ (s.closePeak k).bus = s.bus ∧ (s.closePeak k).inProgress = s.inProgress ∧ (s.closePeak k).pins = s.pins
      ∧ (s.closePeak k).epoch = s.epoch ∧ (s.closePeak k).copyDue = s.copyDue := by
  unfold State.closePeak; split <;> simp

@[simp] theorem State.monitorWork_frame (s : State) (k : StreamId) :
    (s.monitorWork k).pending = s.pending ∧ (s.monitorWork k).tb = s.tb ∧ (s.monitorWork k).dev = s.dev
      ∧ (s.monitorWork k).mem = s.mem ∧ (s.monitorWork k).cover = s.cover ∧ (s.monitorWork k).matrix = s.matrix
      ∧ (s.monitorWork k).bus = s.bus ∧ (s.monitorWork k).inProgress = s.inProgress ∧ (s.monitorWork k).pins = s.pins
      ∧ (s.monitorWork k).epoch = s.epoch ∧ (s.monitorWork k).copyDue = s.copyDue := by
  unfold State.monitorWork; simp

@[simp] theorem State.setServoLimit_frame (s : State) (k : StreamId) (holds : Bool) :
    (s.setServoLimit k holds).pending = s.pending ∧ (s.setServoLimit k holds).tb = s.tb
      ∧ (s.setServoLimit k holds).dev = s.dev ∧ (s.setServoLimit k holds).mem = s.mem
      ∧ (s.setServoLimit k holds).cover = s.cover ∧ (s.setServoLimit k holds).matrix = s.matrix
      ∧ (s.setServoLimit k holds).bus = s.bus ∧ (s.setServoLimit k holds).inProgress = s.inProgress
      ∧ (s.setServoLimit k holds).pins = s.pins ∧ (s.setServoLimit k holds).epoch = s.epoch
      ∧ (s.setServoLimit k holds).copyDue = s.copyDue := by
  unfold State.setServoLimit; repeat' split
  all_goals simp

@[simp] theorem State.servoWork_frame (s : State) (k : StreamId) :
    (s.servoWork k).pending = s.pending ∧ (s.servoWork k).tb = s.tb ∧ (s.servoWork k).dev = s.dev
      ∧ (s.servoWork k).mem = s.mem ∧ (s.servoWork k).cover = s.cover ∧ (s.servoWork k).matrix = s.matrix
      ∧ (s.servoWork k).bus = s.bus ∧ (s.servoWork k).inProgress = s.inProgress ∧ (s.servoWork k).pins = s.pins
      ∧ (s.servoWork k).epoch = s.epoch ∧ (s.servoWork k).copyDue = s.copyDue := by
  unfold State.servoWork; split <;> simp

/-! ### The playout engine -/

@[simp] theorem State.boundaryStage_frame (s : State) (k : StreamId) :
    (s.boundaryStage k).pending = s.pending ∧ (s.boundaryStage k).tb = s.tb ∧ (s.boundaryStage k).dev = s.dev
      ∧ (s.boundaryStage k).mem = s.mem ∧ (s.boundaryStage k).cover = s.cover ∧ (s.boundaryStage k).matrix = s.matrix
      ∧ (s.boundaryStage k).bus = s.bus ∧ (s.boundaryStage k).inProgress = s.inProgress
      ∧ (s.boundaryStage k).pins = s.pins ∧ (s.boundaryStage k).epoch = s.epoch
      ∧ (s.boundaryStage k).copyDue = s.copyDue := by
  unfold State.boundaryStage; repeat' split
  all_goals simp

@[simp] theorem State.handToDetector_frame (s : State) (k : StreamId) (formedIn : PlayState) (out : Frame) :
    (s.handToDetector k formedIn out).pending = s.pending ∧ (s.handToDetector k formedIn out).tb = s.tb
      ∧ (s.handToDetector k formedIn out).dev = s.dev ∧ (s.handToDetector k formedIn out).mem = s.mem
      ∧ (s.handToDetector k formedIn out).cover = s.cover ∧ (s.handToDetector k formedIn out).matrix = s.matrix
      ∧ (s.handToDetector k formedIn out).bus = s.bus ∧ (s.handToDetector k formedIn out).inProgress = s.inProgress
      ∧ (s.handToDetector k formedIn out).pins = s.pins ∧ (s.handToDetector k formedIn out).epoch = s.epoch
      ∧ (s.handToDetector k formedIn out).copyDue = s.copyDue := by
  unfold State.handToDetector; simp

@[simp] theorem State.frameStage_frame (s : State) (k : StreamId) :
    (s.frameStage k).pending = s.pending ∧ (s.frameStage k).tb = s.tb ∧ (s.frameStage k).dev = s.dev
      ∧ (s.frameStage k).mem = s.mem ∧ (s.frameStage k).cover = s.cover ∧ (s.frameStage k).matrix = s.matrix
      ∧ (s.frameStage k).bus = s.bus ∧ (s.frameStage k).inProgress = s.inProgress ∧ (s.frameStage k).pins = s.pins
      ∧ (s.frameStage k).epoch = s.epoch ∧ (s.frameStage k).copyDue = s.copyDue := by
  unfold State.frameStage; dsimp only; split <;> simp

@[simp] theorem State.playoutWork_frame (s : State) (k : StreamId) :
    (s.playoutWork k).pending = s.pending ∧ (s.playoutWork k).tb = s.tb ∧ (s.playoutWork k).dev = s.dev
      ∧ (s.playoutWork k).mem = s.mem ∧ (s.playoutWork k).cover = s.cover ∧ (s.playoutWork k).matrix = s.matrix
      ∧ (s.playoutWork k).bus = s.bus ∧ (s.playoutWork k).inProgress = s.inProgress ∧ (s.playoutWork k).pins = s.pins
      ∧ (s.playoutWork k).epoch = s.epoch ∧ (s.playoutWork k).copyDue = s.copyDue := by
  unfold State.playoutWork; split <;> simp

/-! ### The segment classifier -/

@[simp] theorem State.store_frame (s : State) (k : StreamId) (g : Segment) :
    (s.store k g).pending = s.pending ∧ (s.store k g).tb = s.tb ∧ (s.store k g).dev = s.dev
      ∧ (s.store k g).cover = s.cover ∧ (s.store k g).matrix = s.matrix ∧ (s.store k g).bus = s.bus
      ∧ (s.store k g).ev = s.ev ∧ (s.store k g).inProgress = s.inProgress ∧ (s.store k g).pins = s.pins
      ∧ (s.store k g).epoch = s.epoch ∧ (s.store k g).copyDue = s.copyDue ∧ (s.store k g).portA = s.portA
      ∧ (s.store k g).portB = s.portB := by
  unfold State.store; simp

@[simp] theorem State.reject_frame (s : State) (k : StreamId) :
    (s.reject k).pending = s.pending ∧ (s.reject k).tb = s.tb ∧ (s.reject k).dev = s.dev ∧ (s.reject k).mem = s.mem
      ∧ (s.reject k).cover = s.cover ∧ (s.reject k).matrix = s.matrix ∧ (s.reject k).bus = s.bus
      ∧ (s.reject k).inProgress = s.inProgress ∧ (s.reject k).pins = s.pins ∧ (s.reject k).epoch = s.epoch
      ∧ (s.reject k).copyDue = s.copyDue := by
  unfold State.reject; split <;> simp

@[simp] theorem State.conclude_frame (s : State) (k : StreamId) (g : Segment) (v : Verdict) :
    (s.conclude k g v).pending = s.pending ∧ (s.conclude k g v).tb = s.tb ∧ (s.conclude k g v).dev = s.dev
      ∧ (s.conclude k g v).cover = s.cover ∧ (s.conclude k g v).matrix = s.matrix ∧ (s.conclude k g v).bus = s.bus
      ∧ (s.conclude k g v).inProgress = s.inProgress ∧ (s.conclude k g v).pins = s.pins
      ∧ (s.conclude k g v).epoch = s.epoch ∧ (s.conclude k g v).copyDue = s.copyDue := by
  unfold State.conclude; repeat' split
  all_goals simp

@[simp] theorem State.tallyPath_frame (s : State) (k : StreamId) (p : Port) (g : Segment) (v : Verdict) :
    (s.tallyPath k p g v).pending = s.pending ∧ (s.tallyPath k p g v).tb = s.tb ∧ (s.tallyPath k p g v).dev = s.dev
      ∧ (s.tallyPath k p g v).mem = s.mem ∧ (s.tallyPath k p g v).cover = s.cover
      ∧ (s.tallyPath k p g v).matrix = s.matrix ∧ (s.tallyPath k p g v).bus = s.bus ∧ (s.tallyPath k p g v).ev = s.ev
      ∧ (s.tallyPath k p g v).inProgress = s.inProgress ∧ (s.tallyPath k p g v).pins = s.pins
      ∧ (s.tallyPath k p g v).epoch = s.epoch ∧ (s.tallyPath k p g v).copyDue = s.copyDue
      ∧ (s.tallyPath k p g v).portA = s.portA ∧ (s.tallyPath k p g v).portB = s.portB := by
  unfold State.tallyPath; split <;> simp

@[simp] theorem State.classify_frame (s : State) (k : StreamId) (p : Port) (g : Segment) :
    (s.classify k p g).pending = s.pending ∧ (s.classify k p g).tb = s.tb ∧ (s.classify k p g).dev = s.dev
      ∧ (s.classify k p g).cover = s.cover ∧ (s.classify k p g).matrix = s.matrix ∧ (s.classify k p g).bus = s.bus
      ∧ (s.classify k p g).inProgress = s.inProgress ∧ (s.classify k p g).pins = s.pins
      ∧ (s.classify k p g).epoch = s.epoch ∧ (s.classify k p g).copyDue = s.copyDue := by
  unfold State.classify; simp

/-! ### The timebase -/

@[simp] theorem State.houseFrame_frame (s : State) (mark : Bool) :
    (s.houseFrame mark).pending = s.pending ∧ (s.houseFrame mark).dev = s.dev ∧ (s.houseFrame mark).mem = s.mem
      ∧ (s.houseFrame mark).cover = s.cover ∧ (s.houseFrame mark).inProgress = s.inProgress
      ∧ (s.houseFrame mark).pins = s.pins ∧ (s.houseFrame mark).epoch = s.epoch := by
  unfold State.houseFrame; dsimp only; repeat' split
  all_goals simp

@[simp] theorem State.lockReference_frame (s : State) (mark : Bool) :
    (s.lockReference mark).pending = s.pending ∧ (s.lockReference mark).dev = s.dev
      ∧ (s.lockReference mark).mem = s.mem ∧ (s.lockReference mark).cover = s.cover
      ∧ (s.lockReference mark).inProgress = s.inProgress ∧ (s.lockReference mark).pins = s.pins
      ∧ (s.lockReference mark).epoch = s.epoch := by
  unfold State.lockReference; simp

@[simp] theorem State.edge_frame (s : State) (e : Edge) :
    (s.edge e).pending = s.pending ∧ (s.edge e).dev = s.dev ∧ (s.edge e).mem = s.mem ∧ (s.edge e).cover = s.cover
      ∧ (s.edge e).inProgress = s.inProgress ∧ (s.edge e).pins = s.pins ∧ (s.edge e).epoch = s.epoch := by
  unfold State.edge; repeat' split
  all_goals simp

@[simp] theorem State.missedEdge_frame (s : State) :
    (s.missedEdge).pending = s.pending ∧ (s.missedEdge).dev = s.dev ∧ (s.missedEdge).mem = s.mem
      ∧ (s.missedEdge).cover = s.cover ∧ (s.missedEdge).inProgress = s.inProgress ∧ (s.missedEdge).pins = s.pins
      ∧ (s.missedEdge).epoch = s.epoch := by
  unfold State.missedEdge; repeat' split
  all_goals simp

/-! ### The route matrix -/

@[simp] theorem State.formSlots_frame (s : State) :
    (s.formSlots).pending = s.pending ∧ (s.formSlots).tb = s.tb ∧ (s.formSlots).dev = s.dev
      ∧ (s.formSlots).streams = s.streams ∧ (s.formSlots).mem = s.mem ∧ (s.formSlots).cover = s.cover
      ∧ (s.formSlots).ev = s.ev ∧ (s.formSlots).inProgress = s.inProgress ∧ (s.formSlots).pins = s.pins
      ∧ (s.formSlots).epoch = s.epoch ∧ (s.formSlots).copyDue = s.copyDue ∧ (s.formSlots).portA = s.portA
      ∧ (s.formSlots).portB = s.portB := by
  unfold State.formSlots; simp

@[simp] theorem State.completeSwap_frame (s : State) :
    (s.completeSwap).pending = s.pending ∧ (s.completeSwap).tb = s.tb ∧ (s.completeSwap).dev = s.dev
      ∧ (s.completeSwap).streams = s.streams ∧ (s.completeSwap).mem = s.mem ∧ (s.completeSwap).cover = s.cover
      ∧ (s.completeSwap).matrix = s.matrix ∧ (s.completeSwap).bus = s.bus ∧ (s.completeSwap).ev = s.ev
      ∧ (s.completeSwap).pins = s.pins ∧ (s.completeSwap).epoch = s.epoch ∧ (s.completeSwap).copyDue = s.copyDue := by
  unfold State.completeSwap; split <;> simp

@[simp] theorem State.performSwap_frame (s : State) :
    (s.performSwap).pending = s.pending ∧ (s.performSwap).tb = s.tb ∧ (s.performSwap).dev = s.dev
      ∧ (s.performSwap).streams = s.streams ∧ (s.performSwap).mem = s.mem ∧ (s.performSwap).cover = s.cover
      ∧ (s.performSwap).bus = s.bus ∧ (s.performSwap).pins = s.pins ∧ (s.performSwap).epoch = s.epoch
      ∧ (s.performSwap).copyDue = s.copyDue := by
  unfold State.performSwap; simp

@[simp] theorem State.copyPattern_frame (s : State) :
    (s.copyPattern).pending = s.pending ∧ (s.copyPattern).tb = s.tb ∧ (s.copyPattern).dev = s.dev
      ∧ (s.copyPattern).streams = s.streams ∧ (s.copyPattern).mem = s.mem ∧ (s.copyPattern).cover = s.cover
      ∧ (s.copyPattern).bus = s.bus ∧ (s.copyPattern).ev = s.ev ∧ (s.copyPattern).inProgress = s.inProgress
      ∧ (s.copyPattern).pins = s.pins ∧ (s.copyPattern).epoch = s.epoch ∧ (s.copyPattern).copyDue = s.copyDue
      ∧ (s.copyPattern).portA = s.portA ∧ (s.copyPattern).portB = s.portB := by
  unfold State.copyPattern; split <;> simp

@[simp] theorem State.matrixBoundary_frame (s : State) :
    (s.matrixBoundary).pending = s.pending ∧ (s.matrixBoundary).tb = s.tb ∧ (s.matrixBoundary).dev = s.dev
      ∧ (s.matrixBoundary).streams = s.streams ∧ (s.matrixBoundary).mem = s.mem ∧ (s.matrixBoundary).cover = s.cover
      ∧ (s.matrixBoundary).bus = s.bus ∧ (s.matrixBoundary).pins = s.pins ∧ (s.matrixBoundary).epoch = s.epoch
      ∧ (s.matrixBoundary).copyDue = s.copyDue := by
  unfold State.matrixBoundary; dsimp only; split <;> simp

@[simp] theorem State.matrixWork_frame (s : State) :
    (s.matrixWork).pending = s.pending ∧ (s.matrixWork).tb = s.tb ∧ (s.matrixWork).dev = s.dev
      ∧ (s.matrixWork).streams = s.streams ∧ (s.matrixWork).mem = s.mem ∧ (s.matrixWork).cover = s.cover
      ∧ (s.matrixWork).pins = s.pins ∧ (s.matrixWork).epoch = s.epoch ∧ (s.matrixWork).copyDue = s.copyDue := by
  unfold State.matrixWork; split <;> simp

/-! ### The resets -/

@[simp] theorem State.softReset_frame (s : State) :
    (s.softReset).pending = s.pending ∧ (s.softReset).dev = s.dev ∧ (s.softReset).mem = s.mem
      ∧ (s.softReset).cover = s.cover ∧ (s.softReset).bus = s.bus ∧ (s.softReset).inProgress = s.inProgress
      ∧ (s.softReset).pins = s.pins ∧ (s.softReset).epoch = s.epoch ∧ (s.softReset).copyDue = s.copyDue := by
  unfold State.softReset; simp

@[simp] theorem State.clearReset_frame (s : State) :
    (s.clearReset).pending = s.pending ∧ (s.clearReset).mem = s.mem ∧ (s.clearReset).bus = s.bus
      ∧ (s.clearReset).inProgress = s.inProgress ∧ (s.clearReset).pins = s.pins ∧ (s.clearReset).epoch = s.epoch
      ∧ (s.clearReset).copyDue = s.copyDue := by
  unfold State.clearReset; simp

@[simp] theorem State.lineReset_frame (s : State) :
    (s.lineReset).pending = s.pending ∧ (s.lineReset).dev = s.dev ∧ (s.lineReset).mem = s.mem
      ∧ (s.lineReset).cover = s.cover ∧ (s.lineReset).epoch = s.epoch := by
  unfold State.lineReset; simp

/-! ### The management agent -/

@[simp] theorem State.relockAll_frame (s : State) (ks : List StreamId) :
    (s.relockAll ks).pending = s.pending ∧ (s.relockAll ks).tb = s.tb ∧ (s.relockAll ks).dev = s.dev
      ∧ (s.relockAll ks).mem = s.mem ∧ (s.relockAll ks).cover = s.cover ∧ (s.relockAll ks).matrix = s.matrix
      ∧ (s.relockAll ks).bus = s.bus ∧ (s.relockAll ks).inProgress = s.inProgress ∧ (s.relockAll ks).pins = s.pins
      ∧ (s.relockAll ks).epoch = s.epoch ∧ (s.relockAll ks).copyDue = s.copyDue := by
  unfold State.relockAll
  induction ks generalizing s with
  | nil => simp
  | cons k ks ih =>
    rw [List.foldl_cons]
    split <;> simp [ih]

@[simp] theorem State.storeStreams_frame (s : State) (ws : List (StreamId × StreamRecord)) :
    (s.storeStreams ws).pending = s.pending ∧ (s.storeStreams ws).tb = s.tb ∧ (s.storeStreams ws).dev = s.dev
      ∧ (s.storeStreams ws).mem = s.mem ∧ (s.storeStreams ws).cover = s.cover ∧ (s.storeStreams ws).matrix = s.matrix
      ∧ (s.storeStreams ws).bus = s.bus ∧ (s.storeStreams ws).ev = s.ev
      ∧ (s.storeStreams ws).inProgress = s.inProgress ∧ (s.storeStreams ws).pins = s.pins
      ∧ (s.storeStreams ws).epoch = s.epoch ∧ (s.storeStreams ws).copyDue = s.copyDue
      ∧ (s.storeStreams ws).portA = s.portA ∧ (s.storeStreams ws).portB = s.portB := by
  unfold State.storeStreams; simp only [and_self]

@[simp] theorem State.doRead_frame (s : State) (r : Request) (o : ObjectKind) :
    (s.doRead r o).pending = s.pending ∧ (s.doRead r o).tb = s.tb ∧ (s.doRead r o).dev = s.dev
      ∧ (s.doRead r o).streams = s.streams ∧ (s.doRead r o).mem = s.mem ∧ (s.doRead r o).cover = s.cover
      ∧ (s.doRead r o).matrix = s.matrix ∧ (s.doRead r o).bus = s.bus ∧ (s.doRead r o).ev = s.ev
      ∧ (s.doRead r o).inProgress = s.inProgress ∧ (s.doRead r o).pins = s.pins ∧ (s.doRead r o).epoch = s.epoch
      ∧ (s.doRead r o).copyDue = s.copyDue := by
  unfold State.doRead; simp

@[simp] theorem State.writeStreams_frame (s : State) (r : Request) :
    (s.writeStreams r).pending = s.pending ∧ (s.writeStreams r).tb = s.tb ∧ (s.writeStreams r).dev = s.dev
      ∧ (s.writeStreams r).mem = s.mem ∧ (s.writeStreams r).cover = s.cover ∧ (s.writeStreams r).matrix = s.matrix
      ∧ (s.writeStreams r).bus = s.bus ∧ (s.writeStreams r).ev = s.ev ∧ (s.writeStreams r).inProgress = s.inProgress
      ∧ (s.writeStreams r).pins = s.pins ∧ (s.writeStreams r).epoch = s.epoch
      ∧ (s.writeStreams r).copyDue = s.copyDue := by
  unfold State.writeStreams; split
  · simp
  · dsimp only; split <;> simp

@[simp] theorem State.writeRoutes_frame (s : State) (r : Request) :
    (s.writeRoutes r).pending = s.pending ∧ (s.writeRoutes r).tb = s.tb ∧ (s.writeRoutes r).dev = s.dev
      ∧ (s.writeRoutes r).streams = s.streams ∧ (s.writeRoutes r).mem = s.mem ∧ (s.writeRoutes r).cover = s.cover
      ∧ (s.writeRoutes r).bus = s.bus ∧ (s.writeRoutes r).ev = s.ev ∧ (s.writeRoutes r).inProgress = s.inProgress
      ∧ (s.writeRoutes r).pins = s.pins ∧ (s.writeRoutes r).epoch = s.epoch ∧ (s.writeRoutes r).copyDue = s.copyDue := by
  unfold State.writeRoutes; split <;> simp

@[simp] theorem State.writeCovers_frame (s : State) (r : Request) :
    (s.writeCovers r).pending = s.pending ∧ (s.writeCovers r).tb = s.tb ∧ (s.writeCovers r).dev = s.dev
      ∧ (s.writeCovers r).streams = s.streams ∧ (s.writeCovers r).mem = s.mem ∧ (s.writeCovers r).matrix = s.matrix
      ∧ (s.writeCovers r).bus = s.bus ∧ (s.writeCovers r).ev = s.ev ∧ (s.writeCovers r).inProgress = s.inProgress
      ∧ (s.writeCovers r).pins = s.pins ∧ (s.writeCovers r).epoch = s.epoch ∧ (s.writeCovers r).copyDue = s.copyDue := by
  unfold State.writeCovers; split <;> simp

@[simp] theorem State.writePatterns_frame (s : State) (r : Request) :
    (s.writePatterns r).pending = s.pending ∧ (s.writePatterns r).tb = s.tb ∧ (s.writePatterns r).dev = s.dev
      ∧ (s.writePatterns r).streams = s.streams ∧ (s.writePatterns r).mem = s.mem
      ∧ (s.writePatterns r).cover = s.cover ∧ (s.writePatterns r).bus = s.bus ∧ (s.writePatterns r).ev = s.ev
      ∧ (s.writePatterns r).inProgress = s.inProgress ∧ (s.writePatterns r).pins = s.pins
      ∧ (s.writePatterns r).epoch = s.epoch ∧ (s.writePatterns r).copyDue = s.copyDue := by
  unfold State.writePatterns; split <;> simp

@[simp] theorem State.applyDevice_frame (s : State) (w : DeviceWrite) :
    (s.applyDevice w).pending = s.pending ∧ (s.applyDevice w).tb = s.tb ∧ (s.applyDevice w).streams = s.streams
      ∧ (s.applyDevice w).mem = s.mem ∧ (s.applyDevice w).cover = s.cover ∧ (s.applyDevice w).matrix = s.matrix
      ∧ (s.applyDevice w).bus = s.bus ∧ (s.applyDevice w).ev = s.ev ∧ (s.applyDevice w).inProgress = s.inProgress
      ∧ (s.applyDevice w).pins = s.pins ∧ (s.applyDevice w).epoch = s.epoch ∧ (s.applyDevice w).copyDue = s.copyDue := by
  unfold State.applyDevice; simp only [and_self]

@[simp] theorem State.writeDeviceSettings_frame (s : State) (r : Request) :
    (s.writeDeviceSettings r).pending = s.pending ∧ (s.writeDeviceSettings r).tb = s.tb
      ∧ (s.writeDeviceSettings r).streams = s.streams ∧ (s.writeDeviceSettings r).mem = s.mem
      ∧ (s.writeDeviceSettings r).cover = s.cover ∧ (s.writeDeviceSettings r).matrix = s.matrix
      ∧ (s.writeDeviceSettings r).bus = s.bus ∧ (s.writeDeviceSettings r).ev = s.ev
      ∧ (s.writeDeviceSettings r).inProgress = s.inProgress ∧ (s.writeDeviceSettings r).pins = s.pins
      ∧ (s.writeDeviceSettings r).epoch = s.epoch ∧ (s.writeDeviceSettings r).copyDue = s.copyDue := by
  unfold State.writeDeviceSettings; split <;> simp

@[simp] theorem State.doWrite_frame (s : State) (r : Request) (o : ObjectKind) :
    (s.doWrite r o).pending = s.pending ∧ (s.doWrite r o).tb = s.tb ∧ (s.doWrite r o).mem = s.mem
      ∧ (s.doWrite r o).bus = s.bus ∧ (s.doWrite r o).ev = s.ev ∧ (s.doWrite r o).inProgress = s.inProgress
      ∧ (s.doWrite r o).pins = s.pins ∧ (s.doWrite r o).epoch = s.epoch ∧ (s.doWrite r o).copyDue = s.copyDue := by
  unfold State.doWrite; split <;> simp

@[simp] theorem State.doEnable_frame (s : State) (r : Request) :
    (s.doEnable r).pending = s.pending ∧ (s.doEnable r).tb = s.tb ∧ (s.doEnable r).dev = s.dev
      ∧ (s.doEnable r).mem = s.mem ∧ (s.doEnable r).cover = s.cover ∧ (s.doEnable r).matrix = s.matrix
      ∧ (s.doEnable r).bus = s.bus ∧ (s.doEnable r).ev = s.ev ∧ (s.doEnable r).inProgress = s.inProgress
      ∧ (s.doEnable r).pins = s.pins ∧ (s.doEnable r).epoch = s.epoch ∧ (s.doEnable r).copyDue = s.copyDue := by
  unfold State.doEnable; dsimp only; split <;> simp

@[simp] theorem State.doDisable_frame (s : State) (r : Request) :
    (s.doDisable r).pending = s.pending ∧ (s.doDisable r).tb = s.tb ∧ (s.doDisable r).dev = s.dev
      ∧ (s.doDisable r).mem = s.mem ∧ (s.doDisable r).cover = s.cover ∧ (s.doDisable r).matrix = s.matrix
      ∧ (s.doDisable r).bus = s.bus ∧ (s.doDisable r).ev = s.ev ∧ (s.doDisable r).inProgress = s.inProgress
      ∧ (s.doDisable r).pins = s.pins ∧ (s.doDisable r).epoch = s.epoch ∧ (s.doDisable r).copyDue = s.copyDue := by
  unfold State.doDisable; simp

@[simp] theorem State.doRelock_frame (s : State) (r : Request) :
    (s.doRelock r).pending = s.pending ∧ (s.doRelock r).tb = s.tb ∧ (s.doRelock r).dev = s.dev
      ∧ (s.doRelock r).mem = s.mem ∧ (s.doRelock r).cover = s.cover ∧ (s.doRelock r).matrix = s.matrix
      ∧ (s.doRelock r).bus = s.bus ∧ (s.doRelock r).inProgress = s.inProgress ∧ (s.doRelock r).pins = s.pins
      ∧ (s.doRelock r).epoch = s.epoch ∧ (s.doRelock r).copyDue = s.copyDue := by
  unfold State.doRelock; simp

@[simp] theorem State.doSwap_frame (s : State) (r : Request) :
    (s.doSwap r).pending = s.pending ∧ (s.doSwap r).tb = s.tb ∧ (s.doSwap r).dev = s.dev
      ∧ (s.doSwap r).streams = s.streams ∧ (s.doSwap r).mem = s.mem ∧ (s.doSwap r).cover = s.cover
      ∧ (s.doSwap r).bus = s.bus ∧ (s.doSwap r).ev = s.ev ∧ (s.doSwap r).pins = s.pins ∧ (s.doSwap r).epoch = s.epoch
      ∧ (s.doSwap r).copyDue = s.copyDue ∧ (s.doSwap r).portA = s.portA ∧ (s.doSwap r).portB = s.portB := by
  unfold State.doSwap; simp only [and_self]

@[simp] theorem State.doCopy_frame (s : State) (r : Request) :
    (s.doCopy r).pending = s.pending ∧ (s.doCopy r).tb = s.tb ∧ (s.doCopy r).dev = s.dev
      ∧ (s.doCopy r).streams = s.streams ∧ (s.doCopy r).mem = s.mem ∧ (s.doCopy r).cover = s.cover
      ∧ (s.doCopy r).bus = s.bus ∧ (s.doCopy r).ev = s.ev ∧ (s.doCopy r).inProgress = s.inProgress
      ∧ (s.doCopy r).pins = s.pins ∧ (s.doCopy r).epoch = s.epoch ∧ (s.doCopy r).copyDue = s.copyDue := by
  unfold State.doCopy; simp

@[simp] theorem State.doPeek_frame (s : State) (r : Request) :
    (s.doPeek r).pending = s.pending ∧ (s.doPeek r).tb = s.tb ∧ (s.doPeek r).dev = s.dev
      ∧ (s.doPeek r).streams = s.streams ∧ (s.doPeek r).mem = s.mem ∧ (s.doPeek r).cover = s.cover
      ∧ (s.doPeek r).matrix = s.matrix ∧ (s.doPeek r).bus = s.bus ∧ (s.doPeek r).ev = s.ev
      ∧ (s.doPeek r).inProgress = s.inProgress ∧ (s.doPeek r).pins = s.pins ∧ (s.doPeek r).epoch = s.epoch
      ∧ (s.doPeek r).copyDue = s.copyDue := by
  unfold State.doPeek; simp

@[simp] theorem State.doReadEvents_frame (s : State) (r : Request) :
    (s.doReadEvents r).pending = s.pending ∧ (s.doReadEvents r).tb = s.tb ∧ (s.doReadEvents r).dev = s.dev
      ∧ (s.doReadEvents r).streams = s.streams ∧ (s.doReadEvents r).mem = s.mem ∧ (s.doReadEvents r).cover = s.cover
      ∧ (s.doReadEvents r).matrix = s.matrix ∧ (s.doReadEvents r).bus = s.bus
      ∧ (s.doReadEvents r).inProgress = s.inProgress ∧ (s.doReadEvents r).pins = s.pins
      ∧ (s.doReadEvents r).epoch = s.epoch ∧ (s.doReadEvents r).copyDue = s.copyDue := by
  unfold State.doReadEvents; simp

@[simp] theorem State.zeroed_frame (s : State) (o : ObjectKind) (index count : Nat) :
    (s.zeroed o index count).pending = s.pending ∧ (s.zeroed o index count).tb = s.tb
      ∧ (s.zeroed o index count).dev = s.dev ∧ (s.zeroed o index count).mem = s.mem
      ∧ (s.zeroed o index count).cover = s.cover ∧ (s.zeroed o index count).matrix = s.matrix
      ∧ (s.zeroed o index count).bus = s.bus ∧ (s.zeroed o index count).ev = s.ev
      ∧ (s.zeroed o index count).inProgress = s.inProgress ∧ (s.zeroed o index count).pins = s.pins
      ∧ (s.zeroed o index count).epoch = s.epoch ∧ (s.zeroed o index count).copyDue = s.copyDue := by
  unfold State.zeroed; split <;> simp

@[simp] theorem State.doCollect_frame (s : State) (r : Request) (o : ObjectKind) :
    (s.doCollect r o).pending = s.pending ∧ (s.doCollect r o).tb = s.tb ∧ (s.doCollect r o).dev = s.dev
      ∧ (s.doCollect r o).mem = s.mem ∧ (s.doCollect r o).cover = s.cover ∧ (s.doCollect r o).matrix = s.matrix
      ∧ (s.doCollect r o).bus = s.bus ∧ (s.doCollect r o).ev = s.ev ∧ (s.doCollect r o).inProgress = s.inProgress
      ∧ (s.doCollect r o).pins = s.pins ∧ (s.doCollect r o).epoch = s.epoch ∧ (s.doCollect r o).copyDue = s.copyDue := by
  unfold State.doCollect; simp

@[simp] theorem State.doReset_frame (s : State) (r : Request) (clear : Bool) :
    (s.doReset r clear).pending = s.pending ∧ (s.doReset r clear).mem = s.mem ∧ (s.doReset r clear).bus = s.bus
      ∧ (s.doReset r clear).inProgress = s.inProgress ∧ (s.doReset r clear).pins = s.pins
      ∧ (s.doReset r clear).epoch = s.epoch ∧ (s.doReset r clear).copyDue = s.copyDue := by
  unfold State.doReset; split <;> simp

@[simp] theorem State.execute_frame (s : State) (r : Request) (k : RequestKind) :
    (s.execute r k).pending = s.pending ∧ (s.execute r k).mem = s.mem ∧ (s.execute r k).bus = s.bus
      ∧ (s.execute r k).pins = s.pins ∧ (s.execute r k).epoch = s.epoch ∧ (s.execute r k).copyDue = s.copyDue := by
  unfold State.execute; repeat' split
  all_goals simp

@[simp] theorem State.decideRequest_frame (s : State) (r : Request) :
    (s.decideRequest r).pending = s.pending ∧ (s.decideRequest r).mem = s.mem ∧ (s.decideRequest r).bus = s.bus
      ∧ (s.decideRequest r).pins = s.pins ∧ (s.decideRequest r).epoch = s.epoch
      ∧ (s.decideRequest r).copyDue = s.copyDue := by
  unfold State.decideRequest; split <;> simp

@[simp] theorem State.refuseBusy_frame (s : State) (r : Request) :
    (s.refuseBusy r).pending = s.pending ∧ (s.refuseBusy r).tb = s.tb ∧ (s.refuseBusy r).dev = s.dev
      ∧ (s.refuseBusy r).streams = s.streams ∧ (s.refuseBusy r).mem = s.mem ∧ (s.refuseBusy r).cover = s.cover
      ∧ (s.refuseBusy r).matrix = s.matrix ∧ (s.refuseBusy r).bus = s.bus
      ∧ (s.refuseBusy r).inProgress = s.inProgress ∧ (s.refuseBusy r).pins = s.pins
      ∧ (s.refuseBusy r).epoch = s.epoch ∧ (s.refuseBusy r).copyDue = s.copyDue := by
  unfold State.refuseBusy; split <;> simp

@[simp] theorem State.handle_frame (s : State) (r : Request) :
    (s.handle r).pending = s.pending ∧ (s.handle r).mem = s.mem ∧ (s.handle r).bus = s.bus
      ∧ (s.handle r).pins = s.pins ∧ (s.handle r).epoch = s.epoch ∧ (s.handle r).copyDue = s.copyDue := by
  unfold State.handle; repeat' split
  all_goals simp

/-! ### The link ports -/

@[simp] theorem State.handOver_frame (s : State) (p : Port) (r : Reception) :
    (s.handOver p r).pending = s.pending ∧ (s.handOver p r).bus = s.bus ∧ (s.handOver p r).pins = s.pins
      ∧ (s.handOver p r).epoch = s.epoch ∧ (s.handOver p r).copyDue = s.copyDue := by
  unfold State.handOver; split <;> simp

@[simp] theorem State.receive_frame (s : State) (p : Port) (f : RxFrame) :
    (s.receive p f).pending = s.pending ∧ (s.receive p f).bus = s.bus ∧ (s.receive p f).pins = s.pins
      ∧ (s.receive p f).epoch = s.epoch ∧ (s.receive p f).copyDue = s.copyDue := by
  unfold State.receive; simp

end Sys2Proof.Machine
end

