-- ==== Sys2Proof/Laws/Keyed.lean ====
section
/-! SUPPORT. Keyed lists: what a lookup finds after an insertion, and that insertions and word writes keep the one form a
keyed list has. -/

namespace Sys2Proof.Machine

variable {α : Type}

/-- Reading the key just set gives the value just set. -/
@[simp] theorem lookupKey_insertKey_same (m : List (Nat × α)) (key : Nat) (v : α) :
    lookupKey (insertKey m key v) key = some v := by
  induction m with
  | nil => simp [insertKey, lookupKey]
  | cons c rest ih =>
    obtain ⟨k, w⟩ := c
    simp only [insertKey]
    split
    · simp [lookupKey]
    · split
      · simp [lookupKey]
      · rename_i h1 h2
        simp [lookupKey, Ne.symm h2, ih]

/-- Setting a key leaves every other key as it was. -/
theorem lookupKey_insertKey_other (m : List (Nat × α)) {key other : Nat} (v : α) (h : other ≠ key) :
    lookupKey (insertKey m key v) other = lookupKey m other := by
  induction m with
  | nil => simp [insertKey, lookupKey, Ne.symm h]
  | cons c rest ih =>
    obtain ⟨k, w⟩ := c
    simp only [insertKey]
    split
    · simp [lookupKey, Ne.symm h]
    · split
      · rename_i h1 h2
        subst h2
        simp [lookupKey, Ne.symm h]
      · simp only [lookupKey, ih]

/-- The keys of a list in the one form rise strictly, as a relation on pairs. -/
theorem keysRise_iff (m : List (Nat × α)) : keysRise m = true ↔ m.Pairwise fun a b => a.1 < b.1 := by
  induction m with
  | nil => simp [keysRise]
  | cons c rest ih =>
    obtain ⟨k, w⟩ := c
    cases rest with
    | nil => simp [keysRise]
    | cons d rest =>
      obtain ⟨k', w'⟩ := d
      simp only [keysRise, Bool.and_eq_true, decide_eq_true_eq, ih, List.pairwise_cons]
      constructor
      · rintro ⟨h, hd, hr⟩
        refine ⟨?_, hd, hr⟩
        intro a ha
        rcases List.mem_cons.mp ha with rfl | ha
        · exact h
        · exact Nat.lt_trans h (hd a ha)
      · rintro ⟨h, hd, hr⟩
        exact ⟨h _ (List.mem_cons_self ..), hd, hr⟩

/-- What a list holds after an insertion: the new pair, and pairs it held before at other keys. -/
theorem mem_insertKey {m : List (Nat × α)} {key : Nat} {v : α} {c : Nat × α} (h : c ∈ insertKey m key v) :
    c = (key, v) ∨ c ∈ m := by
  induction m with
  | nil => simpa [insertKey] using h
  | cons d rest ih =>
    obtain ⟨k, w⟩ := d
    simp only [insertKey] at h
    split at h
    · rcases List.mem_cons.mp h with rfl | h
      · exact .inl rfl
      · exact .inr h
    · split at h
      · rcases List.mem_cons.mp h with rfl | h
        · exact .inl rfl
        · exact .inr (List.mem_cons_of_mem _ h)
      · rcases List.mem_cons.mp h with rfl | h
        · exact .inr (List.mem_cons_self ..)
        · rcases ih h with h | h
          · exact .inl h
          · exact .inr (List.mem_cons_of_mem _ h)

/-- An insertion keeps strictly rising keys. -/
theorem keysRise_insertKey {m : List (Nat × α)} (h : keysRise m = true) (key : Nat) (v : α) :
    keysRise (insertKey m key v) = true := by
  rw [keysRise_iff] at *
  induction m with
  | nil => simp [insertKey]
  | cons c rest ih =>
    obtain ⟨k, w⟩ := c
    obtain ⟨hc, hr⟩ := List.pairwise_cons.mp h
    simp only [insertKey]
    split
    · rename_i hk
      refine List.pairwise_cons.mpr ⟨?_, h⟩
      intro a ha
      rcases List.mem_cons.mp ha with rfl | ha
      · exact hk
      · exact Nat.lt_trans hk (hc a ha)
    · split
      · rename_i hk
        subst hk
        exact List.pairwise_cons.mpr ⟨hc, hr⟩
      · rename_i h1 h2
        refine List.pairwise_cons.mpr ⟨?_, ih hr⟩
        intro a ha
        rcases mem_insertKey ha with rfl | ha
        · show k < key
          omega
        · exact hc a ha

/-- A member of a list in the one form is what a lookup of its key finds. -/
theorem lookupKey_of_mem {m : List (Nat × α)} (h : keysRise m = true) {key : Nat} {v : α} (hm : (key, v) ∈ m) :
    lookupKey m key = some v := by
  rw [keysRise_iff] at h
  induction m with
  | nil => cases hm
  | cons c rest ih =>
    obtain ⟨k, w⟩ := c
    obtain ⟨hc, hr⟩ := List.pairwise_cons.mp h
    rcases List.mem_cons.mp hm with he | hm
    · cases he
      simp [lookupKey]
    · have : k < key := hc _ hm
      simp [lookupKey, Nat.ne_of_lt this, ih hr hm]

/-- What a lookup finds is a member. -/
theorem mem_of_lookupKey {m : List (Nat × α)} {key : Nat} {v : α} (h : lookupKey m key = some v) : (key, v) ∈ m := by
  induction m with
  | nil => simp [lookupKey] at h
  | cons c rest ih =>
    obtain ⟨k, w⟩ := c
    simp only [lookupKey] at h
    split at h
    · rename_i hk
      subst hk
      cases h
      exact List.mem_cons_self ..
    · exact List.mem_cons_of_mem _ (ih h)

/-! ### Words -/

/-- The canonical form of sample memory, by its two parts. -/
theorem Memory.wf_iff (m : Memory) : Memory.wf m = true ↔ keysRise m = true ∧ ∀ c ∈ m, c.1 < memoryWords := by
  simp only [Memory.wf, Bool.and_eq_true, List.all_eq_true, decide_eq_true_eq]

/-- Writing one word keeps the canonical form. -/
theorem Memory.wf_insertKey {m : Memory} (h : Memory.wf m = true) {address : Nat} (ha : address < memoryWords)
    (x : Sample) : Memory.wf (insertKey m address x) = true := by
  rw [Memory.wf_iff] at *
  refine ⟨keysRise_insertKey h.1 _ _, ?_⟩
  intro c hc
  rcases mem_insertKey hc with rfl | hc
  · exact ha
  · exact h.2 c hc

/-- Writing words keeps the canonical form, whatever the address and the words. -/
theorem Memory.wf_writeWords {m : Memory} (h : Memory.wf m = true) (address : Nat) (xs : List Sample) :
    Memory.wf (writeWords m address xs) = true := by
  induction xs generalizing m address with
  | nil => exact h
  | cons x xs ih =>
    simp only [writeWords]
    apply ih
    split
    · rename_i ha
      exact Memory.wf_insertKey h ha x
    · exact h

/-- A word write leaves every address before it and past it as it was. -/
theorem lookupKey_writeWords_outside (m : Memory) (address : Nat) (xs : List Sample) {b : Nat}
    (h : b < address ∨ address + xs.length ≤ b) : lookupKey (writeWords m address xs) b = lookupKey m b := by
  induction xs generalizing m address with
  | nil => rfl
  | cons x xs ih =>
    simp only [List.length_cons] at h
    simp only [writeWords]
    rw [ih]
    · split
      · exact lookupKey_insertKey_other _ _ (by omega)
      · rfl
    · omega

/-- A word write within memory leaves each written word at its address. -/
theorem lookupKey_writeWords_inside (m : Memory) (address : Nat) (xs : List Sample) {i : Nat} (hi : i < xs.length)
    (ha : address + i < memoryWords) : lookupKey (writeWords m address xs) (address + i) = some xs[i] := by
  induction xs generalizing m address i with
  | nil => simp at hi
  | cons x xs ih =>
    simp only [writeWords]
    cases i with
    | zero =>
      simp only [Nat.add_zero] at ha
      have hl : address < address + 1 ∨ address + 1 + xs.length ≤ address := by omega
      rw [if_pos ha]
      show lookupKey (writeWords (insertKey m address x) (address + 1) xs) address = some x
      rw [lookupKey_writeWords_outside _ _ _ hl, lookupKey_insertKey_same]
    | succ i =>
      have := ih (m := if address < memoryWords then insertKey m address x else m) (address := address + 1) (i := i)
        (by simpa using hi) (by omega)
      simpa [Nat.add_assoc, Nat.add_comm 1 i] using this

/-- A word that a write stores is read back, and others read as before. -/
theorem State.readWord_of_lookup (s : State) {address : Nat} {x : Sample} (h : lookupKey s.mem address = some x) :
    s.readWord address = x := by
  simp [State.readWord, h]

end Sys2Proof.Machine
end

