-- ==== Sys2Proof/Laws/Step.lean ====
section
/-! SUPPORT. What a command can do: every command answers a next state, and that state is one of these. -/

namespace Sys2Proof.Machine

/-- The states that a command can lead to, with what must hold for each. -/
inductive Effect (s : State) : State → Prop where
  | same : Effect s s
  | powerOn (straps : Byte) :
    Effect s (State.powerOn straps s.portA.linkUp s.portB.linkUp s.pins (s.epoch + 1) s.pending)
  | lineReset (h : s.pins.resetLine = false) : Effect s s.lineReset
  | lineRelease (h : s.pins.resetLine = true) :
    Effect s { s with pins := { s.pins with resetLine := false }, matrix := { s.matrix with cutHeld := s.pins.cut } }
  | link (p : Port) (up : Bool) :
    Effect s (s.modPort p fun l => { l with linkUp := up, queue := if up then l.queue else [] })
  | cut (levels : BitVec 8) (m : Matrix) (h : m = s.matrix ∨ m = { s.matrix with cutHeld := levels }) :
    Effect s { s with pins := { s.pins with cut := levels }, matrix := m }
  | protect (asserted : Bool) : Effect s { s with pins := { s.pins with protect := asserted } }
  | receive (p : Port) (f : RxFrame) (h : s.listens p = true) : Effect s (s.receive p f)
  | complete (p : Port) (h : s.listens p = true) : Effect s (s.modPort p LinkPort.complete)
  | classify (k : StreamId) (p : Port) (g : Segment) (h : s.handed p g = some k) : Effect s (s.classify k p g)
  | edge (e : Edge) : Effect s (s.edge e)
  | missedEdge (h : s.missedEdgeArises = true) : Effect s s.missedEdge
  | houseFrame (h : s.tb.ref = .freeRun) : Effect s (s.houseFrame false)
  | lapse (h : s.tb.ref = .freeRun) : Effect s { s with tb := { s.tb with goodRun := 0, spanOpen := false } }
  | copyTuning : Effect s { s.mapStreams Stream.copyTuning with copyDue := false }
  | playout (k : StreamId) (h : s.playoutArises k = true) : Effect s (s.playoutWork k)
  | servo (k : StreamId) (hr : s.pins.resetLine = false) (he : (s.stream k).enabled = true) : Effect s (s.servoWork k)
  | monitor (k : StreamId) (h : s.monitorArises k = true) : Effect s (s.monitorWork k)
  | matrix (h : s.matrixArises = true) : Effect s s.matrixWork
  | bus (b : GalleryBus) : Effect s { s with bus := b }
  | request (r : Request) : Effect s (s.handle r)

/-- Every command answers a next state, and the state is one of those that `Effect` lists. -/
theorem exec_effect (i : Instr) (s : State) : ∃ t, exec i s = .next t ∧ Effect s t := by
  cases i
  case powerOn =>
    exact ⟨_, rfl, .powerOn _⟩
  case resetLineAssert =>
    refine ⟨_, rfl, ?_⟩
    split
    · exact .same
    · exact .lineReset (by simp_all)
  case resetLineRelease =>
    refine ⟨_, rfl, ?_⟩
    split
    · exact .lineRelease (by assumption)
    · exact .same
  case linkStateChange =>
    exact ⟨_, rfl, .link _ _⟩
  case cutLineChange =>
    refine ⟨_, rfl, ?_⟩
    split
    · exact .cut _ _ (.inl rfl)
    · exact .cut _ _ (.inr rfl)
  case protectLineChange =>
    exact ⟨_, rfl, .protect _⟩
  case frameReception =>
    refine ⟨_, rfl, ?_⟩
    split
    · exact .receive _ _ (by assumption)
    · exact .same
  case audioSegment =>
    simp only [exec, execAudioSegment]
    split
    · exact ⟨_, rfl, .same⟩
    · exact ⟨_, rfl, .classify _ _ _ (by assumption)⟩
  case rejectRunRelock =>
    simp only [exec, execRejectRunRelock]
    split
    · exact ⟨_, rfl, .same⟩
    · refine ⟨_, rfl, ?_⟩
      split
      · exact .classify _ _ _ (by assumption)
      · exact .same
  case referenceEdge =>
    exact ⟨_, rfl, .edge _⟩
  case missedEdgeFrame =>
    refine ⟨_, rfl, ?_⟩
    split
    · exact .missedEdge (by assumption)
    · exact .same
  case enterFreeRun =>
    refine ⟨_, rfl, ?_⟩
    split
    · exact .missedEdge (by simp_all)
    · exact .same
  case oscillatorFrame =>
    refine ⟨_, rfl, ?_⟩
    split
    · exact .houseFrame (by assumption)
    · exact .same
  case goodEdgeRunLapse =>
    refine ⟨_, rfl, ?_⟩
    split
    · exact .lapse (by simp_all)
    · exact .same
  case enterLockedRef =>
    refine ⟨_, rfl, ?_⟩
    split
    · exact .edge _
    · exact .same
  case inForceTuningCopy scope =>
    cases scope
    refine ⟨_, rfl, ?_⟩
    split
    · exact .copyTuning
    · exact .same
  case playoutEngineWork =>
    refine ⟨_, rfl, ?_⟩
    split
    · exact .playout _ (by assumption)
    · exact .same
  case enterPlaying =>
    refine ⟨_, rfl, ?_⟩
    split
    · exact .playout _ (by simp_all)
    · exact .same
  case starveTimeout =>
    refine ⟨_, rfl, ?_⟩
    split
    · exact .playout _ (by simp_all)
    · exact .same
  case holdoverLimitRelock =>
    refine ⟨_, rfl, ?_⟩
    split
    · exact .playout _ (by simp_all)
    · exact .same
  case dropFrame =>
    refine ⟨_, rfl, ?_⟩
    split
    · exact .playout _ (by simp_all)
    · exact .same
  case insertFrame =>
    refine ⟨_, rfl, ?_⟩
    split
    · exact .playout _ (by simp_all)
    · exact .same
  case servoStep =>
    refine ⟨_, rfl, ?_⟩
    split
    · exact .servo _ (by simp_all) (by simp_all)
    · exact .same
  case monitorBoundaryWork =>
    refine ⟨_, rfl, ?_⟩
    split
    · exact .monitor _ (by assumption)
    · exact .same
  case pathTimeout =>
    refine ⟨_, rfl, ?_⟩
    split
    · exact .monitor _ (by simp_all)
    · exact .same
  case intervalSaturation =>
    refine ⟨_, rfl, ?_⟩
    split
    · exact .monitor _ (by simp_all)
    · exact .same
  case silenceWindow =>
    rename_i k closer
    cases closer
    · refine ⟨_, rfl, ?_⟩
      split
      · exact .monitor _ (by simp_all)
      · exact .same
    · refine ⟨_, rfl, ?_⟩
      split
      · exact .playout _ (by simp_all)
      · exact .same
  case routeMatrixEvent =>
    refine ⟨_, rfl, ?_⟩
    split
    · exact .matrix (by assumption)
    · exact .same
  case swapPerformed =>
    refine ⟨_, rfl, ?_⟩
    split
    · exact .matrix (by simp_all)
    · exact .same
  case transitionEnd =>
    refine ⟨_, rfl, ?_⟩
    split
    · exact .matrix (by simp_all)
    · exact .same
  case galleryBusFrame =>
    refine ⟨_, rfl, ?_⟩
    split
    · exact .bus _
    · exact .same
  case transmissionComplete =>
    refine ⟨_, rfl, ?_⟩
    split
    · exact .complete _ (by assumption)
    · exact .same
  case readStream =>
    exact ⟨_, rfl, .request _⟩
  case readStreamStatus =>
    exact ⟨_, rfl, .request _⟩
  case readRouteActive =>
    exact ⟨_, rfl, .request _⟩
  case readRouteStandby =>
    exact ⟨_, rfl, .request _⟩
  case readCover =>
    exact ⟨_, rfl, .request _⟩
  case readPattern =>
    exact ⟨_, rfl, .request _⟩
  case readDevice =>
    exact ⟨_, rfl, .request _⟩
  case readPortCounters =>
    exact ⟨_, rfl, .request _⟩
  case readPathCounters =>
    exact ⟨_, rfl, .request _⟩
  case readMonitors =>
    exact ⟨_, rfl, .request _⟩
  case readTimebase =>
    exact ⟨_, rfl, .request _⟩
  case writeStream =>
    exact ⟨_, rfl, .request _⟩
  case writeRouteStandby =>
    exact ⟨_, rfl, .request _⟩
  case writeCover =>
    exact ⟨_, rfl, .request _⟩
  case writePattern =>
    exact ⟨_, rfl, .request _⟩
  case writeDevice =>
    exact ⟨_, rfl, .request _⟩
  case enable =>
    exact ⟨_, rfl, .request _⟩
  case disable =>
    exact ⟨_, rfl, .request _⟩
  case relock =>
    exact ⟨_, rfl, .request _⟩
  case swap =>
    exact ⟨_, rfl, .request _⟩
  case copy =>
    exact ⟨_, rfl, .request _⟩
  case peekEvents =>
    exact ⟨_, rfl, .request _⟩
  case readEvents =>
    exact ⟨_, rfl, .request _⟩
  case collectPortCounters =>
    exact ⟨_, rfl, .request _⟩
  case collectPathCounters =>
    exact ⟨_, rfl, .request _⟩
  case collectMonitors =>
    exact ⟨_, rfl, .request _⟩
  case reset =>
    refine ⟨_, rfl, ?_⟩
    split
    · exact .same
    · exact .request _
  case resetClearTables =>
    refine ⟨_, rfl, ?_⟩
    split
    · exact .request _
    · exact .same
  case unknownRequest =>
    refine ⟨_, rfl, ?_⟩
    split
    · exact .request _
    · exact .same
  case requestNotApplyingToObject =>
    refine ⟨_, rfl, ?_⟩
    split
    · exact .request _
    · exact .same

/-- The same, read from an answer. -/
theorem effect_of_exec {i : Instr} {s t : State} (h : exec i s = .next t) : Effect s t := by
  obtain ⟨u, hu, he⟩ := exec_effect i s
  rw [hu] at h
  cases h
  exact he

/-- A step leaves the state of an empty queue, and otherwise takes the front command on the rest. -/
theorem step_effect {s t : State} (h : step s = .next t) :
    (s.pending = [] ∧ t = s) ∨ ∃ c rest, s.pending = c :: rest ∧ Effect { s with pending := rest } t := by
  unfold step at h
  split at h
  · cases h
    exact .inl ⟨by assumption, rfl⟩
  · exact .inr ⟨_, _, by assumption, effect_of_exec h⟩

end Sys2Proof.Machine
end

