-- ==== Sys2Proof/WellFormed.lean ====
section
/-! DEFINITION. Which terms of `Instr` are commands of the row they name: a segment handed over is a well-formed one
(R7), a RESET row carries the flag its row says, and the two rows of refused requests carry codes that belong there. -/

namespace Sys2Proof

open Sys2Proof.Machine in
/-- The checks a command of each row passes. -/
def Instr.wellFormed : Instr → Bool
  | .audioSegment _ g => g.wellFormed
  | .rejectRunRelock _ g => g.wellFormed
  | .reset _ m => !decide (m.data.head? = some 1)
  | .resetClearTables _ m => decide (m.data.head? = some 1)
  | .unknownRequest code _ _ => (requestKind code).isNone
  | .requestNotApplyingToObject code object _ =>
    match requestKind code with
    | some r => !r.applies object
    | none => false
  | .powerOn _ => true
  | .resetLineAssert => true
  | .resetLineRelease => true
  | .linkStateChange _ _ => true
  | .cutLineChange _ _ => true
  | .protectLineChange _ => true
  | .frameReception _ _ => true
  | .referenceEdge _ => true
  | .missedEdgeFrame => true
  | .enterFreeRun => true
  | .oscillatorFrame => true
  | .goodEdgeRunLapse => true
  | .enterLockedRef _ => true
  | .inForceTuningCopy _ => true
  | .playoutEngineWork _ => true
  | .enterPlaying _ => true
  | .starveTimeout _ => true
  | .holdoverLimitRelock _ => true
  | .dropFrame _ => true
  | .insertFrame _ => true
  | .servoStep _ => true
  | .monitorBoundaryWork _ => true
  | .pathTimeout _ _ => true
  | .intervalSaturation _ _ => true
  | .silenceWindow _ _ => true
  | .routeMatrixEvent => true
  | .swapPerformed => true
  | .transitionEnd => true
  | .galleryBusFrame => true
  | .transmissionComplete _ => true
  | .readStream _ => true
  | .readStreamStatus _ => true
  | .readRouteActive _ => true
  | .readRouteStandby _ => true
  | .readCover _ => true
  | .readPattern _ => true
  | .readDevice _ => true
  | .readPortCounters _ => true
  | .readPathCounters _ => true
  | .readMonitors _ => true
  | .readTimebase _ => true
  | .writeStream _ => true
  | .writeRouteStandby _ => true
  | .writeCover _ => true
  | .writePattern _ => true
  | .writeDevice _ => true
  | .enable _ => true
  | .disable _ => true
  | .relock _ => true
  | .swap _ _ => true
  | .copy _ _ => true
  | .peekEvents _ _ => true
  | .readEvents _ _ => true
  | .collectPortCounters _ => true
  | .collectPathCounters _ => true
  | .collectMonitors _ => true

end Sys2Proof
end

