-- ==== Sys2Proof/Tests/Slice0.lean ====
section
/-! SUPPORT. Tests of one step each: ill-formed terms that the checks refuse, the manual's worked examples, and a state and
operands that meet the hypotheses of each statement of Certificates/Slice0/Obligations.lean. -/

set_option Elab.async false

namespace Sys2Proof.Tests

open Sys2Proof.Machine

/-! ### Small states and operands -/

/-- A request from a station on port A, untagged, to unit 7. -/
def ask (index count : Nat) (data : List Byte) : Envelope :=
  { port := .a, source := 0x0200000000AA, vlan := none, unit := 7, index := BitVec.ofNat 8 index,
    count := BitVec.ofNat 8 count, tag := 0x01020304, data := data }

/-- The same request to the general address. -/
def tell (index count : Nat) (data : List Byte) : Envelope := { ask index count data with unit := 0 }

/-- A state that holds one stream of its own at a place. -/
def one (k : StreamId) (st : Stream) : State := State.reset.modStream k fun _ => st

/-- Stream 3 of sections 2.7 and 3.6 after its ENABLE. -/
def ring : Stream :=
  { Stream.powerOn with
    enabled := true, record := { StreamRecord.default with shape := { Shape.default with basePage := 200 } },
    figures := some ⟨32, 384, 96⟩, state := .acquire }

/-- A segment of stream 3 with 24 samples. -/
def seg (q t : Nat) : Segment :=
  { stream := 3, channels := 2, frames := 12, seq := BitVec.ofNat 16 q, origin := BitVec.ofNat 32 t,
    samples := (List.range 24).map fun n => BitVec.ofNat 24 (q + n) }

/-- Stream 3 in PLAYING as section 2.7 leaves it, with P at 5055. -/
def played : Stream :=
  { ring with
    state := .playing, anchor := some ⟨104, 5048⟩, newest := 5060, fillStart := 5000, playPoint := 5055,
    tags := [(4, ⟨100, 5000⟩), (5, ⟨101, 5012⟩), (6, ⟨102, 5024⟩), (7, ⟨103, 5036⟩), (8, ⟨104, 5048⟩)],
    pathA := { PathContext.cleared with expected := some 136 },
    pathB := { PathContext.cleared with expected := some 104 } }

/-- The same stream with every piece of work of a block boundary due. -/
def due : Stream :=
  { played with frameDue := true, stepDue := true, monitorDue := true, peakDue := true }

/-- The state after an outcome. -/
def after : Host.Outcome State Fault Refusal → State
  | .next t => t
  | .fault _ => State.reset
  | .refused _ => State.reset

/-- A state at a block boundary that holds `st` as stream 3. -/
def boundary (st : Stream) : State := one 2 st

/-- A state in the middle of a block that holds `st` as stream 3. -/
def midBlock (st : Stream) : State := { one 2 st with tb := { Timebase.powerOn with phase := 20, h := 500 } }

/-! ### Terms that the checks refuse -/

/-- A segment of 17 channels is refused (R7). -/
theorem test_ill_formed_segment :
    (Instr.audioSegment .a (seg 100 5000)).wellFormed = true
      ∧ (Instr.audioSegment .a { seg 100 5000 with channels := 17 }).wellFormed = false := by decide +kernel

/-- A segment whose samples are fewer than its fields say is refused (R7). -/
theorem test_ill_formed_rejected_segment :
    (Instr.rejectRunRelock .b (seg 100 5000)).wellFormed = true
      ∧ (Instr.rejectRunRelock .b { seg 100 5000 with samples := [] }).wellFormed = false := by decide +kernel

/-- A RESET row whose data carries the clear-tables flag is refused, and so is a RESET_CLEAR_TABLES row without it. -/
theorem test_ill_formed_reset :
    (Instr.reset 0 (ask 0 0 [0])).wellFormed = true ∧ (Instr.reset 0 (ask 0 0 [1])).wellFormed = false
      ∧ (Instr.resetClearTables 0 (ask 0 0 [1])).wellFormed = true
      ∧ (Instr.resetClearTables 0 (ask 0 0 [0])).wellFormed = false := by decide +kernel

/-- A known request code is refused in the row of unknown requests (section 12.2). -/
theorem test_ill_formed_unknown_request :
    (Instr.unknownRequest 12 1 (ask 0 0 [])).wellFormed = true
      ∧ (Instr.unknownRequest 11 1 (ask 0 0 [])).wellFormed = false := by decide +kernel

/-- An object that the request applies to, and an unknown code, are refused in the row of misapplied requests. -/
theorem test_ill_formed_misapplied_request :
    (Instr.requestNotApplyingToObject 3 2 (ask 0 0 [])).wellFormed = true
      ∧ (Instr.requestNotApplyingToObject 3 1 (ask 0 0 [])).wellFormed = false
      ∧ (Instr.requestNotApplyingToObject 12 1 (ask 0 0 [])).wellFormed = false := by decide +kernel

/-! ### Worked examples of the manual -/

/-- Section 1.7: the streams of its table. -/
def reception : State :=
  let s (k : StreamId) (on : Bool) (sh : Shape) (t : State) : State :=
    t.modStream k fun st => { st with enabled := on, record := { st.record with shape := sh } }
  s 4 true { Shape.default with channels := 8, segLen := 24 }
    (s 11 true { Shape.default with channels := 4, segLen := 48, admission := .b } State.reset)

/-- A frame with transport bytes `t` and zeros for the frame check sequence. -/
def frameTo (dest : Mac) (vlan : Option VlanTag) (t : List Byte) : RxFrame :=
  { fcsOk := true, bytes := ethernetFrame dest 0x0200000000AA vlan 0x88B5 t [0, 0, 0, 0] }

/-- A kind-1 header with as many payload bytes as given. -/
def segmentBytes (stream channels frames payload : Nat) : List Byte :=
  [1, 1, BitVec.ofNat 8 stream, BitVec.ofNat 8 channels, BitVec.ofNat 8 frames, 0, 1, 0, 0, 0, 9]
    ++ List.replicate payload 0

/-- The stream that a reception hands a segment of. -/
def segmentOf : Reception → Option StreamId
  | .segment k _ => some k
  | .request _ => none
  | .badFcs => none
  | .foreign => none
  | .malformed => none
  | .unadmitted => none

/-- Section 1.7, frames 1, 2, 5, 6: handed over, MALFORMED, UNADMITTED, UNADMITTED. -/
theorem test_worked_reception_of_segments :
    (segmentOf (reception.judgeFrame .a (frameTo 0x024E4100070A none (segmentBytes 5 8 24 576))),
     reception.judgeFrame .a (frameTo 0x0180C2000001 (some ⟨40, 5⟩) (segmentBytes 5 16 48 600)),
     reception.judgeFrame .a (frameTo 0x024E4100070A none (segmentBytes 9 2 12 72)),
     reception.judgeFrame .a (frameTo 0x0180C2000001 none (segmentBytes 12 4 48 576)))
      = (some 4, .malformed, .unadmitted, .unadmitted) := by decide +kernel

/-- Section 1.7, frames 3, 4, 7, 8: FOREIGN, BAD_FCS, a request, FOREIGN. -/
theorem test_worked_reception_of_others :
    (reception.judgeFrame .a (frameTo 0x024E4100070B none (segmentBytes 5 8 24 576)),
     reception.judgeFrame .a { frameTo 0x024E4100070A none [] with fcsOk := false },
     reception.judgeFrame .a (frameTo 0x024E4100070A (some ⟨40, 0⟩)
       ([2, 1, 7, 1, 11, 0, 1, 1, 2, 3, 4, 0] ++ List.replicate 40 0)),
     reception.judgeFrame .a (frameTo 0x024E4100070A none ([4, 1] ++ List.replicate 60 0)))
      = (.foreign, .badFcs,
         .request ⟨1, 11, { ask 0 1 (List.replicate 40 0) with vlan := some ⟨40, 0⟩ }⟩, .foreign) := by
  decide +kernel

/-- Section 2.7: figures of stream 3; section 11.8 step 2: figures of stream 5. -/
theorem test_worked_figures :
    (ring.record.shape.figures,
     { ring.record.shape with channels := 8, segLen := 24, basePage := 0, pageCount := 32, holdDepth := 1200 : Shape }.figures)
      = (⟨32, 384, 96⟩, ⟨128, 3072, 1200⟩) := by decide +kernel

/-- Section 2.7, segment 1: anchor, N, P, t0, state, slot 4's tag, path A's E and the margin. -/
theorem test_worked_arrival_of_segment_1 :
    let st := (after (exec (.audioSegment .a (seg 100 5000)) (one 2 ring))).stream 2
    (st.anchor, st.newest, st.playPoint, st.fillStart) = (some ⟨100, 5000⟩, 5012, 4904, 5000)
      ∧ (st.state, st.tags, st.pathA.expected, st.tightest) = (.filling, [(4, ⟨100, 5000⟩)], some 101, 96) := by decide +kernel

/-- Section 2.7, segment 7: EARLY; lost on path A advances by 32, E becomes 136, the reject run 3. -/
theorem test_worked_arrival_of_segment_7 :
    let s := one 2 { played with anchor := some ⟨101, 5012⟩, newest := 5036, playPoint := 4920, rejectRun := 2,
                                 tags := [(4, ⟨100, 5000⟩), (5, ⟨101, 5012⟩), (6, ⟨102, 5024⟩)],
                                 pathA := { PathContext.cleared with expected := some 103 } }
    let st := (after (exec (.audioSegment .a (seg 135 5420)) s)).stream 2
    (st.pathA.counters, st.pathA.expected, st.rejectRun)
      = (⟨1, 0, 0, 0, 1, 0, 32, 0⟩, some 136, 3) := by decide +kernel

/-- Section 2.7, segment 10: partly late and accepted into slot 8, with margin -7. -/
theorem test_worked_arrival_of_segment_10 :
    let s := one 2 { played with anchor := some ⟨103, 5036⟩, newest := 5048, rejectRun := 1,
                                 tags := [(4, ⟨100, 5000⟩), (5, ⟨101, 5012⟩), (6, ⟨102, 5024⟩), (7, ⟨103, 5036⟩)] }
    let st := (after (exec (.audioSegment .a (seg 104 5048)) s)).stream 2
    (st.anchor, st.newest, st.rejectRun, st.tags, st.tightest, st.pathA.counters)
      = (played.anchor, 5060, 0, played.tags, -7, ⟨1, 1, 0, 0, 0, 0, 0, 1⟩) := by decide +kernel

/-- Section 3.6: presence by origin time, and the address of channel 1 of the frame at 5055. -/
theorem test_worked_presence :
    ([5055, 5047, 5040, 4990, 5060, 5432].map played.locate, wordAddress played.record.shape 8 7 + 1)
      = ([some (8, 7), some (7, 11), some (7, 4), none, none, none], 153807) := by decide +kernel

/-- Section 4.5: the missed-edge frame 500 004 enters FREE_RUN with REF_LOST. -/
theorem test_worked_loss_of_the_reference :
    let s := { State.reset with
      tb := { Timebase.powerOn with h := 500003, phase := 35, ref := .lockedRef, missedRun := 3, firstDue := false } }
    let t := after (exec .missedEdgeFrame s)
    (t.tb, t.ev.refLost, t.ev.events)
      = ({ Timebase.powerOn with h := 500004, phase := 36, firstDue := false }, true, [⟨.refLost, 0, 1⟩]) := by
  decide +kernel

/-- Section 4.5: the mark at house frame 503 203 finds phase 19, and re-phases. -/
theorem test_worked_re_phase :
    let s := { State.reset with
      tb := { Timebase.powerOn with h := 503202, phase := 18, ref := .lockedRef, firstDue := false } }
    let t := after (exec (.referenceEdge ⟨65536, 0, true⟩) s)
    (t.tb.h, t.tb.phase, t.tb.lastMark, t.ev.events, t.matrix.due)
      = (503203, 0, 19, [⟨.markSlip, 0, 1⟩], true) := by decide +kernel

/-- A stream in PLAYING whose servo step is due, with a lead of `e` above its effective H. -/
def drifting (s q g rmax : Nat) (e : Nat) : State :=
  boundary { due with
    servo := { Servo.zero with s := s, q := q }, newest := BitVec.ofNat 32 (5055 + 96 + e),
    closing := { Tuning.default with gain := g, deadband := 2, rmax := rmax } }

/-- Section 6.7.1 step 2, section 6.7.2 step 7 and section 6.7.3 step 2. -/
theorem test_worked_servo_steps :
    let servo (s : State) : Int × Nat × Nat × Slip :=
      let v := ((after (exec (.servoStep 2) s)).stream 2).servo
      (v.s, v.r, v.q, v.direction)
    servo (drifting 40 0 8 2048 40) = (78, 39, 39, .drop)
      ∧ servo (drifting 1029 3553 15 1024 200) = (1165, 1024, 4577, .drop)
      ∧ servo (boundary { due with
            servo := { Servo.zero with s := -25 }, newest := BitVec.ofNat 32 (5055 + 96 - 25),
            closing := { Tuning.default with gain := 8 } }) = (-48, 24, 24, .insert) := by decide +kernel

/-- Section 6.7.2 step 7 raises SERVO_LIMIT, and section 6.7.5's step schedules a drop. -/
theorem test_worked_servo_limit_and_slip :
    (let t := after (exec (.servoStep 2) (drifting 1029 3553 15 1024 200))
     ((t.stream 2).alarms.servoLimit, t.ev.events) = (true, [⟨.servoLimit, 3, 1⟩]))
      ∧ ((after (exec (.servoStep 2) (drifting 640 65300 10 2048 40))).stream 2).slipDue = .drop := by decide +kernel

/-- A frame of two samples. -/
def pair (a b : Int) : Frame := (Frame.zero.set 0 (BitVec.ofInt 24 a)).set 1 (BitVec.ofInt 24 b)

/-- Section 6.7.4: the drop frame and the insert frame of a stream whose frame at P + 1 is missing. -/
theorem test_worked_slip_frames :
    let st := { played with playPoint := 5059, lastOut := pair 512000 100, slipDue := .drop, frameDue := true }
    let s (st : Stream) : State :=
      { midBlock st with mem := writeWords [] (wordAddress st.record.shape 8 11) [511800, 90] }
    let d := (after (exec (.dropFrame 2) (s st))).stream 2
    let i := (after (exec (.insertFrame 2) (s { st with slipDue := .insert }))).stream 2
    (d.lastOut, d.playPoint, d.slipDue, d.concealed) = (pair 510900 45, 5061, .none, 1)
      ∧ (i.lastOut, i.playPoint, i.slipDue, i.concealed) = (pair 511900 95, 5059, .none, 0) := by decide +kernel

/-- Section 7.6: the concealment frame of house frame 70 000 under FADE, its first two channels covered. -/
theorem test_worked_concealment_with_cover :
    let st := { played with record := { played.record with shape := { played.record.shape with channels := 4 } },
                            inForce := { Tuning.default with fill := .fade },
                            lastOut := ((pair 1000 2000).set 2 3000).set 3 4000 }
    st.concealment (some (2, pair 7000 (-7000))) = ((pair 7000 (-7000)).set 2 2989).set 3 3985 := by
  decide +kernel

/-- Section 8.9: effective gains at phase 47, the slot values of the table's last two rows, and a saturated sum (R140). -/
theorem test_worked_crossfade :
    (effectiveGain 16384 48 1, effectiveGain 8192 48 47, effectiveGain 16384 23 24, effectiveGain 8192 23 24)
        = (341, 8021, 3925, 1962)
      ∧ (slotValue 24404000000, slotValue 24576000000, slotValue 9811000000, slotValue 274877906944)
        = (1489502, 1500000, 598816, 8388607) := by decide +kernel

/-- R144's places: slot 0 is position 0 of lane 0, slot 40 position 8 of lane 1, slot 255 position 31 of lane 7. -/
theorem test_worked_lanes :
    let v : SlotValues := Vector.ofFn fun j => BitVec.ofNat 24 (1000 + j.val)
    ((inLanes v)[0][0], (inLanes v)[1][8], (inLanes v)[7][31]) = (1000, 1040, 1255) := by decide +kernel

/-- R40: a boundary taken after an acceptance of its house frame leaves a stream of starve timeout 1 in PLAYING (log 34), and
one taken before it starves the stream. -/
theorem test_acceptance_first_keeps_playing :
    let work (accepted : Bool) : Stream := (after (execPlayoutEngineWork 2 (boundary
      { due with closing := { Tuning.default with starveTimeout := 1 }, accepted := accepted }))).stream 2
    ((work true).state, (work true).quiet, (work false).state) = (.playing, 1, .holdover) := by decide +kernel

/-- R156: the first close after a relock sets the silent run to 0 and clears SILENCE, in PLAYING too (log 39). -/
theorem test_first_close_after_a_relock :
    let st := { due with closing := { Tuning.default with watch := some 0 }, blockPeak := some 3, silentRun := 7, silence := true,
                         alarms := { AlarmFlags.none with silence := true }, relockOpen := true }
    let t := ((boundary st).closePeak 2).stream 2
    (t.silentRun, t.silence, t.alarms.silence, t.relockOpen, t.blockPeak) = (0, false, false, false, none) := by decide +kernel

/-- R18: a WRITE of a disabled record reaches no slot before the next ENABLE (log 35). -/
theorem test_written_count_waits_for_enable :
    let st := { Stream.disable { played with handed := pair 6 7 } with record.shape.channels := 1 }
    ((boundary st).sourceSample (.stream 2 1), (boundary (st.enable ⟨32, 384, 96⟩)).sourceSample (.stream 2 1))
      = (7, 0) := by decide +kernel

/-- R76: the frame stages after a DISABLE leave the frame origin as the last one before it set it (log 36). -/
theorem test_idle_keeps_the_frame_origin :
    let st := { Stream.disable { played with frameOrigin := 5054 } with frameDue := true }
    let t := (after (execPlayoutEngineWork 2 (one 2 st))).stream 2
    (t.frameOrigin, t.playPoint, t.frameDue) = (5054, 5055, false) := by decide +kernel

/-- Spec/09, opening: an ENABLE after the boundary's copy leaves the tuning that the boundary's work still reads (log 14),
and the copy takes every record in one event (R20). -/
theorem test_boundary_work_keeps_its_tuning :
    let slow := { Tuning.default with pathTimeout := 200 }
    let asked := { Stream.powerOn with record := { StreamRecord.default with tuning := slow }, closing := Tuning.default }
    (asked.enable ⟨32, 384, 96⟩).closing.pathTimeout = 20 ∧ (asked.enable ⟨32, 384, 96⟩).inForce.pathTimeout = 200
      ∧ let s := { (one 2 asked).modStream 63 fun _ => asked with copyDue := true }
        let t := after (execInForceTuningCopy .allStreams s)
        ((t.stream 2).inForce.pathTimeout, (t.stream 63).inForce.pathTimeout, (t.stream 2).closing.pathTimeout, t.copyDue)
          = (200, 200, 20, false) := by decide +kernel

/-- Section 9.6: the boundary of house frame 265 584 freezes path B's interval record; the 20th boundary raises
PATH_B_DOWN. -/
theorem test_worked_path_loss :
    let lost := { PathContext.cleared with lastArrival := some 200010, lastInterval := 48, largestInterval := 60 }
    let s (h : HouseCount) (c : PathContext) : State :=
      { boundary { due with pathB := c } with tb := { Timebase.powerOn with h := h } }
    let frozen := (after (exec (.monitorBoundaryWork 2) (s 265584 { lost with blocksSince := 255, down := true }))).stream 2
    let raised := after (exec (.pathTimeout 2 .b) (s 200928 { lost with blocksSince := 19 }))
    (frozen.pathB.lastInterval, frozen.pathB.largestInterval, frozen.pathB.frozen) = (65535, 65535, true)
      ∧ ((raised.stream 2).pathB.blocksSince, (raised.stream 2).alarms.pathBDown, raised.ev.events)
          = (20, true, [⟨.pathBDown, 3, 1⟩]) := by decide +kernel

/-- Section 10.8 at 2 800: READ_EVENTS with count 2 returns and removes the first two pairs. -/
theorem test_worked_read_of_events :
    let s := { State.reset with
      ev := { EventUnit.cleared with
              events := [⟨.starved, 4, 1⟩, ⟨.starved, 21, 1⟩, ⟨.relocked, 21, 1⟩, ⟨.pathADown, 21, 1⟩],
              alertPending := true } }
    let t := after (exec (.readEvents 0 (ask 0 2 [])) s)
    (t.ev.events, t.ev.alertPending, t.portA.queue.map fun f => f.transport.drop 11)
      = ([⟨.relocked, 21, 1⟩, ⟨.pathADown, 21, 1⟩], false, [[0, 0, 10, 0, 2, 0, 0, 2, 4, 1, 2, 21, 1]]) := by
  decide +kernel

/-- The 24 bytes of section 12.4. -/
def writtenRecord : List Byte :=
  [0, 8, 24, 0x00, 0x00, 0x00, 0x20, 0x04, 0xB0, 3, 0x14, 0x07, 0xD0, 0x14, 2, 8, 2, 0x04, 0x00, 0x00, 0x00, 0x40,
   0x13, 0x88]

/-- Section 12.4: what the WRITE of section 11.8 step 1 stores, and its reply. -/
theorem test_worked_write_of_a_stream :
    let t := after (exec (.writeStream (ask 5 1 writtenRecord)) State.reset)
    let r := (t.stream 4).record
    (r.shape, r.tuning) = (⟨8, 24, 0, 32, 1200, .both⟩, ⟨20, 2000, 20, .fade, 8, 2, 1024, some 0, 64, 5000⟩)
      ∧ t.portA.queue.map (fun f => f.transport) = [[3, 1, 7, 2, 1, 5, 1, 1, 2, 3, 4, 0, 0, 0]]
      ∧ t.portA.counters.requestsAccepted = 1 := by decide +kernel

/-- Section 12.4 and section 11.8 step 5: the alert notice of BANK_SWAPPED, and after it the SWAP's reply. -/
theorem test_worked_swap :
    let s := { State.reset with
      inProgress := some ⟨6, 0, ask 0 0 []⟩, matrix := { State.reset.matrix with swapWaiting := true, due := true },
      ev := { EventUnit.cleared with alertDest := some ⟨0x0200000000AA, .a, none⟩ } }
    let t := after (exec .swapPerformed s)
    (t.portA.queue.map fun f => f.transport)
        = [[4, 1, 7, 0x0B, 0, 1, 0, 1], [3, 1, 7, 6, 0, 0, 0, 1, 2, 3, 4, 0, 0, 0]]
      ∧ (t.matrix.active, t.matrix.swapWaiting, t.inProgress, t.ev.alertPending) = (.bank1, false, none, true) := by
  decide +kernel

/-- Section 1.1 at strap value 7 and at a strap value of 255, which gives no unit address (R1, R191). -/
theorem test_power_on_straps :
    (after (exec (.powerOn 7) State.reset)).portB.station = 0x024E4100070B
      ∧ (after (exec (.powerOn 7) State.reset)).dev.unit = some 7
      ∧ (after (exec (.powerOn 255) State.reset)).dev.unit = none := by decide +kernel

/-- No word spells a command: the table gives no row bits. -/
theorem test_no_word_is_a_command : decodeTableWord 16 0 = none := by decide +kernel

/-! ### States and operands that meet the hypotheses of the statements

One theorem for each statement that has hypotheses, named after it; each shows every clause's hypotheses met together, at
the edge of a range where a clause has one. -/

/-- The outcome is a next state. -/
def answers : Host.Outcome State Fault Refusal → Bool
  | .next _ => true
  | .fault _ => false
  | .refused _ => false

theorem eq_after {o : Host.Outcome State Fault Refusal} (h : answers o = true) : o = .next (after o) := by
  cases o with
  | next t => rfl
  | fault f => cases h
  | refused r => cases h

/-- What holds of the one anchor a stream has holds of each. -/
theorem anchor_only {st : Stream} {a : Tag} {P : Tag → Prop} (h : st.anchor = some a) (hp : P a) :
    ∀ b, st.anchor = some b → P b := fun _ hb => Option.some.inj (h.symm.trans hb) ▸ hp

/-- The streams of a state with one stream of its own. -/
theorem stream_one (k : StreamId) (st : Stream) (j : StreamId) :
    (one k st).stream j = st ∨ (one k st).stream j = Stream.powerOn := by
  by_cases h : j = k
  · subst h; exact .inl (by simp [one, State.stream, State.modStream])
  · refine .inr ?_
    rw [one, State.stream, State.modStream, Fin.getElem_fin, Vector.getElem_set_ne]
    · simp [State.reset, State.powerOn]
    · exact fun e => h (Fin.ext e.symm)

/-- What holds of stream 3 and of a stream at power-on holds of every stream. -/
theorem forall_one {P : Stream → Prop} {k : StreamId} {st : Stream} (h1 : P st) (h2 : P Stream.powerOn) (j : StreamId) :
    P ((one k st).stream j) := by
  rcases stream_one k st j with h | h <;> rw [h] <;> assumption

/-- The state of section 3.6 with one more segment waiting. -/
def waiting : State := { one 2 played with pending := [.audioSegment .a (seg 105 5060)] }

theorem test_met_StepKeepsSampleMemoryCanonical :
    waiting.MemorySound ∧ step waiting = .next (after (step waiting)) ∧ (after (step waiting)).mem.length = 24 :=
  ⟨by show Memory.wf _ = true; decide +kernel, eq_after (by decide +kernel), by decide +kernel⟩

/-- A state with a full transmit queue and a request waiting. -/
def crowded : State :=
  { State.reset with
    pending := [.readDevice (ask 0 1 [])],
    portA := { State.reset.portA with queue := List.replicate 4 ⟨.reply, 1, 2, none, 0x88B5, [3]⟩ } }

theorem test_met_StepKeepsTransmitQueuesBounded :
    crowded.QueuesSound ∧ step crowded = .next (after (step crowded)) ∧ (after (step crowded)).portA.queue.length = 4 := by
  refine ⟨fun p => ?_, eq_after (by decide +kernel), by decide +kernel⟩
  cases p <;> exact ⟨by decide +kernel, by decide +kernel, by decide +kernel⟩

theorem test_met_ports : crowded.PortsSound := fun p => by
  cases p <;> exact ⟨by decide +kernel, by decide +kernel, by decide +kernel, by decide +kernel⟩

/-- LOCKED_REF with the missed-edge run at 3 and one more missed edge waiting. -/
def losing : State :=
  { State.reset with
    pending := [.missedEdgeFrame], tb := { Timebase.powerOn with ref := .lockedRef, missedRun := 3 } }

theorem test_met_StepKeepsTimebaseRunsBounded :
    losing.TimebaseSound ∧ step losing = .next (after (step losing)) ∧ (after (step losing)).tb.ref = .freeRun :=
  ⟨⟨by decide +kernel, by decide +kernel, by decide +kernel, by decide +kernel, by decide +kernel, by decide +kernel⟩,
    eq_after (by decide +kernel), by decide +kernel⟩

/-- The losing state with a device pair and a stream pair pending, each at an end of its range. -/
def noted : State :=
  { losing with ev := { EventUnit.cleared with events := [⟨.refLost, 0, 255⟩, ⟨.starved, 64, 1⟩] } }

theorem noted_sound : noted.EventsSound := by
  refine ⟨fun e he => ?_, by decide +kernel⟩
  have h : e = ⟨.refLost, 0, 255⟩ ∨ e = ⟨.starved, 64, 1⟩ := by simpa [noted, EventUnit.cleared] using he
  rcases h with rfl | rfl <;> exact ⟨by decide +kernel, by decide +kernel⟩

theorem test_met_StepKeepsEventSetOrdered :
    noted.EventsSound ∧ step noted = .next (after (step noted)) ∧ (after (step noted)).ev.events = noted.ev.events :=
  ⟨noted_sound, eq_after (by decide +kernel), by decide +kernel⟩

theorem test_met_StepKeepsLocksAndTags :
    waiting.LocksSound ∧ waiting.TagsSound ∧ step waiting = .next (after (step waiting)) := by
  refine ⟨forall_one (k := 2) ⟨?_, ?_, ?_, ?_, ?_, ?_, ?_⟩ ⟨?_, ?_, ?_, ?_, ?_, ?_, ?_⟩, forall_one (k := 2) ⟨?_, ?_⟩
    ⟨?_, ?_⟩, eq_after (by decide +kernel)⟩
  case refine_16 =>
    intro i g h
    have h : (i, g) = (4, (⟨100, 5000⟩ : Tag)) ∨ (i, g) = (5, ⟨101, 5012⟩) ∨ (i, g) = (6, ⟨102, 5024⟩)
        ∨ (i, g) = (7, ⟨103, 5036⟩) ∨ (i, g) = (8, ⟨104, 5048⟩) := by simpa [played] using h
    rcases h with h | h | h | h | h <;> cases h
    · exact ⟨by decide +kernel, _, rfl, -4, by decide +kernel, by decide +kernel⟩
    · exact ⟨by decide +kernel, _, rfl, -3, by decide +kernel, by decide +kernel⟩
    · exact ⟨by decide +kernel, _, rfl, -2, by decide +kernel, by decide +kernel⟩
    · exact ⟨by decide +kernel, _, rfl, -1, by decide +kernel, by decide +kernel⟩
    · exact ⟨by decide +kernel, _, rfl, 0, by decide +kernel, by decide +kernel⟩
  case refine_18 => intro i g h; cases h
  all_goals decide +kernel

theorem test_met_StepKeepsStreamQuantitiesInRange :
    waiting.RangesSound ∧ step waiting = .next (after (step waiting)) := by
  have path (e : Option Seq) : ({ PathContext.cleared with expected := e } : PathContext).RangeSound :=
    ⟨by simp [PathContext.cleared], by simp [PathContext.cleared], by simp [PathContext.cleared]⟩
  refine ⟨forall_one (k := 2) ?_ ?_, eq_after (by decide +kernel)⟩
  · refine ⟨?_, ?_, ?_, ?_, ?_, ?_, ?_, ?_, ?_, ?_, ?_, ?_, ?_, ?_, path _, path _⟩
    case refine_13 => intro v h; cases h
    all_goals decide +kernel
  · refine ⟨?_, ?_, ?_, ?_, ?_, ?_, ?_, ?_, ?_, ?_, ?_, ?_, ?_, ?_, path _, path _⟩
    case refine_13 => intro v h; cases h
    all_goals decide +kernel

/-- A state in the table's form, with one enabled stream. -/
theorem table_one (s : State) (st : Stream) (h : s.streams = (one 2 st).streams) (h1 : st.record.shape.inRange = true)
    (h2 : st.figures = some st.record.shape.figures) (h3 : 4 ≤ st.record.shape.slots)
    (h4 : st.channels = st.record.shape.channels) (h5 : ∀ n : Fin 8, s.cover[n].primary ≠ s.cover[n].cover) :
    s.TableSound := by
  have e : ∀ j, s.stream j = (one 2 st).stream j := fun j => by rw [State.stream, State.stream, h]
  refine ⟨fun k => ?_, fun k hk => ?_, fun k _ => ?_, h5, fun j k hj hk hne => ?_⟩
  · rw [e]; exact forall_one (P := fun st => st.record.shape.inRange = true) h1 (by decide +kernel) k
  · rw [e] at hk ⊢
    rcases stream_one 2 st k with hs | hs
    · rw [hs]; exact ⟨h2, h3⟩
    · rw [hs] at hk; exact absurd hk (by decide +kernel)
  · rw [e]; exact forall_one (P := fun st => st.channels = st.record.shape.channels) h4 (by decide +kernel) k
  · have one2 (i : StreamId) (hi : (s.stream i).enabled = true) : i = 2 := by
      by_contra hn
      have hs : (one 2 st).stream i = Stream.powerOn := by
        rw [one, State.stream, State.modStream, Fin.getElem_fin, Vector.getElem_set_ne]
        · simp [State.reset, State.powerOn]
        · exact fun h => hn (Fin.ext h.symm)
      rw [e, hs] at hi
      exact absurd hi (by decide +kernel)
    exact absurd ((one2 j hj).trans (one2 k hk).symm) hne

theorem waiting_table : waiting.TableSound :=
  table_one waiting played rfl (by decide +kernel) (by decide +kernel) (by decide +kernel) rfl (by decide +kernel)

theorem test_met_StepKeepsEnabledStreamsApart :
    waiting.TableSound ∧ (waiting.stream 2).enabled = true ∧ step waiting = .next (after (step waiting)) :=
  ⟨waiting_table, by decide +kernel, eq_after (by decide +kernel)⟩

/-- A SWAP in progress at a block boundary, its exchange waiting, and slot 40 at the full level. -/
def swapping : State :=
  { State.reset with
    pending := [.routeMatrixEvent], inProgress := some ⟨6, 0, ask 0 0 []⟩,
    matrix := { State.reset.matrix with
      swapWaiting := true, due := true, slots := State.reset.matrix.slots.set 40 { Slot.powerOn with fade := 48 } } }

theorem test_met_StepKeepsMatrixAndSwapInAgreement :
    swapping.MatrixSound ∧ step swapping = .next (after (step swapping))
      ∧ (after (step swapping)).inProgress = none := by
  refine ⟨⟨by decide +kernel, fun j d h => ?_, by decide +kernel, by decide +kernel⟩, eq_after (by decide +kernel),
    by decide +kernel⟩
  have n : ∀ j : SlotId, swapping.matrix.slots[j].transition = .none := by
    simp [swapping, State.reset, State.powerOn, Matrix.powerOn, Slot.powerOn, Vector.getElem_set, apply_ite Slot.transition]
  rw [n j] at h; cases h

/-! #### Records and frames -/

theorem test_met_TableRecordsReadBack :
    StreamRecord.inRange
        ⟨⟨16, 48, 2047, 1, 32767, .b⟩, ⟨255, 65535, 255, .hold, 15, 255, 65535, some 15, 65535, 65535⟩⟩ = true
      ∧ (⟨true, 63, 0⟩ : CoverEntry).primary ≠ (⟨true, 63, 0⟩ : CoverEntry).cover := by decide +kernel

theorem test_met_DeviceRecordReadsBack :
    State.reset.dev.unit = some 7 ∧ (7 : Byte) ≠ 0 ∧ (7 : Byte) ≠ 255
      ∧ ∀ p : Port, (State.reset.port p).station.getLsbD 40 = false ∧ (State.reset.port p).station ≠ 0
          ∧ 0x0600 ≤ (State.reset.port p).etherType.toNat ∧ (State.reset.port p).etherType ≠ 0x8100 := by
  refine ⟨by decide +kernel, by decide +kernel, by decide +kernel, fun p => ?_⟩
  cases p <;> decide +kernel

/-- A READ of DEVICE with 34 bytes of padding, with which its untagged frame is 64 bytes long, the least there is. -/
def readOfDevice : Request := ⟨1, 7, ask 0 1 (List.replicate 34 0)⟩

theorem test_met_RequestFrameRunsItsCommand :
    let f := frameTo 0x024E4100070A none (readOfDevice.transport 0)
    let g := frameTo 0x0180C2000001 (some ⟨40, 5⟩) (Request.transport ⟨1, 7, { readOfDevice.env with vlan := some ⟨40, 5⟩ }⟩ 0)
    State.reset.listens .a = true ∧ readOfDevice.env.port = .a
      ∧ (0x024E4100070A : Mac) = (State.reset.port .a).station ∧ (0x0180C2000001 : Mac).getLsbD 40 = true
      ∧ (State.reset.port .a).etherType = 0x88B5 ∧ [0, 0, 0, (0 : Byte)].length = 4
      ∧ f.fcsOk = true ∧ f.bytes.length = 64 ∧ g.fcsOk = true ∧ 64 ≤ g.bytes.length ∧ g.bytes.length ≤ 1536 := by
  decide +kernel

/-- A segment handed to the classifier for stream 3. -/
theorem hands {st : Stream} {p : Port} {g : Segment} (h1 : g.wellFormed = true) (h2 : g.stream = 3)
    (h3 : st.enabled = true) (h4 : st.record.shape.admission.includes p = true) : (one 2 st).HandsOver p g 2 := by
  have e : (one 2 st).stream 2 = st := by simp [one, State.stream, State.modStream]
  exact ⟨rfl, h1, h2, by rw [e]; exact h3, by rw [e]; exact h4⟩

theorem test_met_SegmentFrameReachesTheClassifier :
    let f := frameTo 0x024E4100070A none (segmentTransport (seg 105 5060) [])
    (one 2 played).listens .a = true ∧ (one 2 played).HandsOver .a (seg 105 5060) 2
      ∧ (0x024E4100070A : Mac) = ((one 2 played).port .a).station ∧ ((one 2 played).port .a).etherType = 0x88B5
      ∧ f.fcsOk = true ∧ 64 ≤ f.bytes.length ∧ f.bytes.length ≤ 1536 :=
  ⟨by decide +kernel, hands (by decide +kernel) rfl rfl rfl, by decide +kernel, by decide +kernel, by decide +kernel,
    by decide +kernel, by decide +kernel⟩

theorem test_met_FrameThatFailsATestIsCountedAndDropped :
    let at_ (f : RxFrame) : FrameParts := splitFrame f.bytes
    let meant (q : FrameParts) : Bool := decide (q.dest = State.reset.portA.station) && decide (q.etherType = 0x88B5)
      && decide (field q.transport 1 1 = 1)
    -- a link that is DOWN, and one that is UP
    { State.reset with portA := { State.reset.portA with linkUp := false } }.listens .a = false
      ∧ State.reset.listens .a = true
      -- 63 bytes are too few; a frame of kind 4; 481 samples are too many; stream 64 is not enabled
      ∧ (frameTo 0x024E4100070A none (List.replicate 45 0)).bytes.length = 63
      ∧ meant (at_ (frameTo 0x024E4100070A none ([4, 1] ++ List.replicate 60 0))) = true
      ∧ (let f := frameTo 0x024E4100070A none (segmentBytes 5 13 37 600)
         meant (at_ f) = true ∧ field (at_ f).transport 0 1 = 1 ∧ 480 < 13 * 37 ∧ f.bytes.length ≤ 1536)
      ∧ (let f := frameTo 0x024E4100070A none (segmentBytes 64 10 48 1440)
         meant (at_ f) = true ∧ field (at_ f).transport 0 1 = 1 ∧ (readSegment (at_ f).transport).stream = 64
           ∧ 11 + 10 * 48 * 3 = (at_ f).transport.length ∧ f.bytes.length ≤ 1536
           ∧ (State.reset.stream 63).enabled = false) := by decide +kernel

theorem test_met_TransmitQueueIsFirstInFirstOut :
    let f : TxFrame := ⟨.reply, 1, 2, none, 0x88B5, [3]⟩
    let l (n : Nat) : LinkPort := { State.reset.portA with queue := List.replicate n f }
    (l 3).linkUp = true ∧ (l 3).queue.length < 4 ∧ ¬ (l 4).queue.length < 4
      ∧ ({ State.reset with portA := l 4 }.listens .a = true ∧ (l 4).queue = f :: List.replicate 3 f)
      ∧ (State.reset.port .a).queue = [] := by decide +kernel

/-- The reset line asserted. -/
def held : State := { State.reset with pins := { State.reset.pins with resetLine := true } }

theorem test_met_ResetLineClearsAndReleases :
    State.reset.pins.resetLine = false ∧ held.pins.resetLine = true := by decide +kernel

theorem test_met_PathArrivalIsTracked :
    let c (e q : Seq) (a h : HouseCount) : Int × Nat := ((q - e).toInt, (h - a).toNat)
    -- the ends of the signed difference, equality, and the edge of the interval; an absent E and an absent arrival
    c 0 32767 0 65534 = (32767, 65534) ∧ c 5 5 0 65535 = (0, 65535) ∧ c 0 32768 1 0 = (-32768, 4294967295)
      ∧ PathContext.cleared.expected = none ∧ PathContext.cleared.lastArrival = none
      ∧ ({ PathContext.cleared with frozen := true } : PathContext).frozen = true := by decide +kernel

/-! #### Segments -/

/-- A segment of stream 3 of the wrong shape. -/
def misfit : Segment := { seg 105 5060 with channels := 1, samples := List.replicate 12 0 }

theorem fits_seg {st : Stream} (q t : Nat) (h1 : st.record.shape.channels = 2) (h2 : st.record.shape.segLen = 12) :
    st.Fits (seg q t) := ⟨h1.symm, h2.symm⟩

theorem at_two (st : Stream) : (one 2 st).stream 2 = st := by simp [one, State.stream, State.modStream]

theorem test_met_SegmentNotStoredOnlyCounts :
    let tight := { played with rejectRun := 14 }
    (one 2 ring).HandsOver .a misfit 2 ∧ ¬ ring.Fits misfit ∧ ring.state = .acquire
      ∧ ((one 2 tight).HandsOver .b misfit 2 ∧ ¬ tight.Fits misfit ∧ tight.Locked ∧ tight.rejectRun + 1 < 16)
      -- off the timeline by one frame
      ∧ ((one 2 tight).HandsOver .a (seg 105 5061) 2 ∧ tight.Fits (seg 105 5061)
          ∧ ¬ ∀ a, tight.anchor = some a →
            ((seg 105 5061).origin - a.origin).toInt = ((seg 105 5061).seq - a.seq).toInt * 12)
      -- r is 0 with P at 5060
      ∧ (let late := { tight with playPoint := 5060 }
         (one 2 late).HandsOver .a (seg 104 5048) 2 ∧ late.Fits (seg 104 5048) ∧ late.Locked
          ∧ (∀ a, late.anchor = some a →
            ((seg 104 5048).origin - a.origin).toInt = ((seg 104 5048).seq - a.seq).toInt * 12)
          ∧ ((seg 104 5048).origin + 12 - late.playPoint).toInt = 0)
      -- r is 385, one above the capacity
      ∧ (let early := { tight with playPoint := 5059 }
         (one 2 early).HandsOver .a (seg 136 5432) 2 ∧ early.Fits (seg 136 5432) ∧ early.Locked
          ∧ (∀ a, early.anchor = some a →
            ((seg 136 5432).origin - a.origin).toInt = ((seg 136 5432).seq - a.seq).toInt * 12)
          ∧ ((seg 136 5432).origin + 12 - early.playPoint).toInt = 385 ∧ early.fig.capacity = 384)
      -- r is 1, and the tag is held
      ∧ (let held := { tight with playPoint := 5059 }
         (one 2 held).HandsOver .a (seg 104 5048) 2 ∧ held.Locked
          ∧ ((seg 104 5048).origin + 12 - held.playPoint).toInt = 1
          ∧ lookupKey held.tags ((seg 104 5048).seq.toNat % held.fig.slots) = some ⟨104, 5048⟩) := by
  refine ⟨hands (by decide +kernel) rfl rfl rfl, fun h => absurd h.1 (by decide +kernel), rfl,
    ⟨hands (by decide +kernel) rfl rfl rfl, fun h => absurd h.1 (by decide +kernel), .inr (.inl rfl), by decide +kernel⟩,
    ⟨hands (by decide +kernel) rfl rfl rfl, fits_seg 105 5061 rfl rfl,
      fun h => absurd (h ⟨104, 5048⟩ rfl) (by decide +kernel)⟩,
    ⟨hands (by decide +kernel) rfl rfl rfl, fits_seg 104 5048 rfl rfl, .inr (.inl rfl),
      anchor_only (a := ⟨104, 5048⟩) rfl (by decide +kernel), by decide +kernel⟩,
    ⟨hands (by decide +kernel) rfl rfl rfl, fits_seg 136 5432 rfl rfl, .inr (.inl rfl),
      anchor_only (a := ⟨104, 5048⟩) rfl (by decide +kernel), by decide +kernel, by decide +kernel⟩,
    hands (by decide +kernel) rfl rfl rfl, .inr (.inl rfl), by decide +kernel, by decide +kernel⟩

theorem test_met_FirstSegmentStartsTheLock :
    (one 2 ring).HandsOver .b (seg 65535 4294967295) 2 ∧ ((one 2 ring).stream 2).Fits (seg 65535 4294967295)
      ∧ ((one 2 ring).stream 2).state = .acquire := by
  rw [at_two]
  exact ⟨hands (by decide +kernel) rfl rfl rfl, fits_seg 65535 4294967295 rfl rfl, rfl⟩

theorem test_met_LaterSegmentIsAccepted :
    let late := { played with playPoint := 5060 }
    -- r is 384, the capacity itself, and the tag held at its slot is another pair; in HOLDOVER r may be 1
    ((one 2 late).HandsOver .a (seg 136 5432) 2 ∧ late.Fits (seg 136 5432) ∧ late.Locked
      ∧ (∀ a, late.anchor = some a →
        ((seg 136 5432).origin - a.origin).toInt = ((seg 136 5432).seq - a.seq).toInt * 12)
      ∧ ((seg 136 5432).origin + 12 - late.playPoint).toInt = 384
      ∧ lookupKey late.tags ((seg 136 5432).seq.toNat % late.fig.slots) ≠ some ⟨136, 5432⟩)
      ∧ (let last := { played with state := .holdover, playPoint := 5071 }
         (one 2 last).HandsOver .a (seg 105 5060) 2 ∧ last.Fits (seg 105 5060) ∧ last.Locked
          ∧ (∀ a, last.anchor = some a →
            ((seg 105 5060).origin - a.origin).toInt = ((seg 105 5060).seq - a.seq).toInt * 12)
          ∧ ((seg 105 5060).origin + 12 - last.playPoint).toInt = 1
          ∧ lookupKey last.tags ((seg 105 5060).seq.toNat % last.fig.slots) ≠ some ⟨105, 5060⟩) :=
  ⟨⟨hands (by decide +kernel) rfl rfl rfl, fits_seg 136 5432 rfl rfl, .inr (.inl rfl),
      anchor_only (a := ⟨104, 5048⟩) rfl (by decide +kernel), by decide +kernel, by decide +kernel⟩,
    hands (by decide +kernel) rfl rfl rfl, fits_seg 105 5060 rfl rfl, .inr (.inr rfl),
    anchor_only (a := ⟨104, 5048⟩) rfl (by decide +kernel), by decide +kernel, by decide +kernel⟩

theorem test_met_SixteenthRejectionRelocks :
    let full := { played with rejectRun := 15 }
    ((one 2 full).HandsOver .a misfit 2 ∧ full.Locked ∧ 16 ≤ full.rejectRun + 1 ∧ ¬ full.Fits misfit)
      ∧ ((one 2 full).HandsOver .a (seg 105 5061) 2 ∧ full.Fits (seg 105 5061)
          ∧ ¬ ∀ a, full.anchor = some a →
            ((seg 105 5061).origin - a.origin).toInt = ((seg 105 5061).seq - a.seq).toInt * 12)
      ∧ (let late := { full with playPoint := 5060 }
         (one 2 late).HandsOver .a (seg 104 5048) 2
          ∧ (∀ a, late.anchor = some a →
            ((seg 104 5048).origin - a.origin).toInt = ((seg 104 5048).seq - a.seq).toInt * 12)
          ∧ ((seg 104 5048).origin + 12 - late.playPoint).toInt = 0)
      ∧ (let early := { full with playPoint := 5059 }
         (one 2 early).HandsOver .a (seg 136 5432) 2
          ∧ (∀ a, early.anchor = some a →
            ((seg 136 5432).origin - a.origin).toInt = ((seg 136 5432).seq - a.seq).toInt * 12)
          ∧ ((seg 136 5432).origin + 12 - early.playPoint).toInt = 385 ∧ early.fig.capacity = 384)
      ∧ (one 2 { played with rejectRun := 14 }).HandsOver .a misfit 2 := by
  refine ⟨⟨hands (by decide +kernel) rfl rfl rfl, .inr (.inl rfl), by decide +kernel, fun h => absurd h.1 (by decide +kernel)⟩,
    ⟨hands (by decide +kernel) rfl rfl rfl, fits_seg 105 5061 rfl rfl,
      fun h => absurd (h ⟨104, 5048⟩ rfl) (by decide +kernel)⟩,
    ⟨hands (by decide +kernel) rfl rfl rfl, anchor_only (a := ⟨104, 5048⟩) rfl (by decide +kernel), by decide +kernel⟩,
    ⟨hands (by decide +kernel) rfl rfl rfl, anchor_only (a := ⟨104, 5048⟩) rfl (by decide +kernel), by decide +kernel,
      by decide +kernel⟩, hands (by decide +kernel) rfl rfl rfl⟩

/-- With the anchor at sequence 104: an absent anchor; an empty slot position (sequence 105); one that holds another pair
(sequence 132 falls on sequence 100); and the last frame of sequence 100, which is held. -/
theorem test_met_missing_frames :
    ring.anchor = none ∧ played.anchor = some ⟨104, 5048⟩
      ∧ (((5060 : Origin) - 5048).toInt = 1 * 12 + 0 ∧ lookupKey played.tags ((104 + BitVec.ofInt 16 1).toNat % 32) = none)
      ∧ (((5395 : Origin) - 5048).toInt = 28 * 12 + 11
          ∧ lookupKey played.tags ((104 + BitVec.ofInt 16 28).toNat % 32) = some ⟨100, 5000⟩)
      ∧ (((5011 : Origin) - 5048).toInt = (-4) * 12 + 11
          ∧ lookupKey played.tags ((104 + BitVec.ofInt 16 (-4)).toNat % 32) = some ⟨100, 5048 + BitVec.ofInt 32 ((-4) * 12)⟩) := by
  decide +kernel

theorem test_met_AcceptedSegmentIsPresent :
    (∃ s t, s.TableSound ∧ s.HandsOver .a (seg 100 5000) 2 ∧ (s.stream 2).verdict (seg 100 5000) = .first
        ∧ exec (.audioSegment .a (seg 100 5000)) s = .next t)
      ∧ ∃ s t, s.TableSound ∧ s.HandsOver .b (seg 105 5060) 2 ∧ (s.stream 2).verdict (seg 105 5060) = .accepted
        ∧ exec (.audioSegment .b (seg 105 5060)) s = .next t :=
  ⟨⟨one 2 ring, _, table_one _ ring rfl (by decide +kernel) (by decide +kernel) (by decide +kernel) rfl
        (by decide +kernel),
      hands (by decide +kernel) rfl rfl rfl, by decide +kernel, eq_after (by decide +kernel)⟩,
    ⟨one 2 played, _, table_one _ played rfl (by decide +kernel) (by decide +kernel) (by decide +kernel) rfl
        (by decide +kernel),
      hands (by decide +kernel) rfl rfl rfl, by decide +kernel, eq_after (by decide +kernel)⟩⟩

theorem test_met_SegmentLeavesOtherStreamsAlone :
    ∃ s t, s.TableSound ∧ (seg 105 5060).stream = (2 : StreamId).val + 1 ∧ (63 : StreamId) ≠ 2
      ∧ exec (.audioSegment .a (seg 105 5060)) s = .next t ∧ t.stream 2 ≠ s.stream 2 :=
  ⟨one 2 played, _, table_one _ played rfl (by decide +kernel) (by decide +kernel) (by decide +kernel) rfl
        (by decide +kernel), rfl,
    by decide +kernel, eq_after (by decide +kernel), by decide +kernel⟩

/-! #### Timebase -/

/-- A state whose timebase is `tb`. -/
def timed (tb : Timebase) : State := { State.reset with tb := tb }

/-- FREE_RUN with a span begun and the good-edge run at `n`. -/
def running (n : Nat) : Timebase := { Timebase.powerOn with spanOpen := true, goodRun := n }

/-- LOCKED_REF at block phase 46 with the missed-edge run at `n`. -/
def locked (n : Nat) : Timebase :=
  { Timebase.powerOn with ref := .lockedRef, phase := 46, missedRun := n, firstDue := false }

theorem test_met_FreeRunFramesAndEdges :
    ((timed (running 478)).tb.ref = .freeRun ∧ (timed (running 478)).pins.resetLine = false
      ∧ State.reset.tb.spanOpen = false ∧ (running 478).goodRun + 1 < 480
      ∧ (⟨61440, 0, false⟩ : Edge).span = 61440 ∧ (⟨69632, 0, false⟩ : Edge).span = 69632
      ∧ (⟨61439, 0, false⟩ : Edge).span < 61440 ∧ 69632 < (⟨69633, 0, false⟩ : Edge).span)
      ∧ (held.tb.ref = .freeRun ∧ held.pins.resetLine = true) ∧ (timed (locked 0)).tb.ref = .lockedRef := by
  decide +kernel

theorem test_met_EdgeFrameTakesItsMark :
    (timed (locked 3)).tb.ref = .lockedRef ∧ (timed (locked 3)).pins.resetLine = false
      ∧ (-32768 ≤ (⟨0, -32768, true⟩ : Edge).offset ∧ (⟨0, 32768, true⟩ : Edge).offset ≤ 32768)
      ∧ ((⟨0, -32769, true⟩ : Edge).offset < -32768 ∧ 32768 < (⟨0, 32769, true⟩ : Edge).offset) := by decide +kernel

theorem test_met_FourthMissedEdgeEntersFreeRun :
    (timed (locked 2)).tb.ref = .lockedRef ∧ (timed (locked 2)).pins.resetLine = false
      ∧ (timed (locked 2)).tb.missedRun + 1 < 4 ∧ 4 ≤ (timed (locked 3)).tb.missedRun + 1 := by decide +kernel

theorem test_met_GoodEdge480EntersLockedRef :
    (timed (running 479)).tb.ref = .freeRun ∧ (timed (running 479)).pins.resetLine = false
      ∧ (timed (running 479)).tb.spanOpen = true ∧ 61440 ≤ (⟨61440, 0, true⟩ : Edge).span
      ∧ (⟨69632, 0, true⟩ : Edge).span ≤ 69632 ∧ 480 ≤ (timed (running 479)).tb.goodRun + 1 := by decide +kernel

/-! #### The work of a house frame -/

theorem test_met_InForceTuningIsCopiedAtTheBoundary :
    let s := { boundary due with copyDue := true }
    s.pins.resetLine = false ∧ s.copyDue = true ∧ (boundary due).copyDue = false ∧ held.pins.resetLine = true
      ∧ (0 : Phase) = 0 := ⟨rfl, rfl, rfl, rfl, rfl⟩

theorem test_met_ServoStepInPlaying :
    (boundary due).pins.resetLine = false ∧ ((boundary due).stream 2).stepDue = true
      ∧ ((boundary due).stream 2).enabled = true ∧ ((boundary due).stream 2).state = .playing := by decide +kernel

/-- `due` in another state. -/
def dueIn (st : PlayState) : Stream := { due with state := st }

theorem test_met_ServoStepOutsidePlaying :
    ∀ st ∈ [PlayState.holdover, .acquire, .filling],
      (boundary (dueIn st)).pins.resetLine = false ∧ ((boundary (dueIn st)).stream 2).stepDue = true
        ∧ ((boundary (dueIn st)).stream 2).enabled = true ∧ ((boundary (dueIn st)).stream 2).state = st := by
  decide +kernel

theorem test_met_FrameStagePlaysOrConceals :
    ((boundary due).stream 2).state = .playing ∧ ((boundary due).stream 2).slipDue = .none
      ∧ ((boundary (dueIn .holdover)).stream 2).state = .holdover
      ∧ ((midBlock due).pins.resetLine = false ∧ ((midBlock due).stream 2).frameDue = true
          ∧ (midBlock due).tb.phase ≠ 0)
      ∧ ((boundary due).stream 63).frameDue = false
      -- a frame that is present and one that is missing
      ∧ due.locate 5055 = some (8, 7) ∧ due.locate 5060 = none := by decide +kernel

/-- Stream 6 covers stream 3 by entry 1; entry 0 names them too and is not in use. -/
def covered (cover : Stream) : State :=
  { (boundary due).modStream 5 fun _ => cover with
    cover := ((State.reset.cover.set 0 ⟨false, 2, 5⟩).set 1 ⟨true, 2, 5⟩).set 7 ⟨true, 2, 6⟩ }

/-- A cover stream supplies before and after its frame stage, in HOLDOVER too; not in FILLING, not where its frame is missing,
and not to a stream that no entry in use names. -/
theorem test_met_cover :
    (∀ st ∈ [due, { due with frameDue := false, frameOrigin := 5000 }, { due with state := .holdover }],
        ((covered st).coverSupplied 2).map Prod.fst = some 2 ∧ ((covered st).coverRead 2).map Prod.fst = some 2)
      ∧ (∀ st ∈ [{ due with state := .filling }, { due with playPoint := 5060 }], ((covered st).coverSupplied 2).isNone = true)
      ∧ ((covered due).coverSupplied 5).isNone = true := by decide +kernel

/-- A sample of -8 388 608 in the watch channel makes a peak of 65 536; a watch channel at the channel count gives 0. -/
theorem test_met_block_peak :
    let peak (w : Nat) (from_ : Option Nat) : Option Nat :=
      (((boundary { played with inForce := { Tuning.default with watch := some w }, blockPeak := from_ }).detects 2 .holdover
        (pair 127 (-8388608))).stream 2).blockPeak
    (peak 0 none, peak 1 none, peak 2 none, peak 2 (some 5)) = (some 0, some 65536, some 0, some 5) := by decide +kernel

/-- `due` with a slip due, `quiet` quiet blocks and `blocks` holdover blocks. -/
def slipping (slip : Slip) (quiet blocks : Nat) : Stream :=
  { due with slipDue := slip, quiet := quiet, holdover := blocks }

theorem test_met_SlipFramesAverageTwoFrames :
    ((boundary (slipping .drop 18 0)).stream 2).state = .playing
      ∧ ((boundary (slipping .drop 18 0)).stream 2).slipDue = .drop
      ∧ ((boundary (slipping .insert 18 0)).stream 2).slipDue = .insert
      ∧ (boundary (slipping .drop 18 0)).pins.resetLine = false
      ∧ ((boundary (slipping .drop 18 0)).stream 2).frameDue = true
      -- at a boundary the 19th quiet block, one short of the starve timeout; and a frame in the middle of a block
      ∧ (boundary (slipping .drop 18 0)).tb.phase = 0
      ∧ min (((boundary (slipping .drop 18 0)).stream 2).quiet + 1) 65535
          < ((boundary (slipping .drop 18 0)).stream 2).closing.starveTimeout
      ∧ (midBlock (slipping .insert 65535 0)).tb.phase ≠ 0
      -- where no slip is made: the 20th quiet block starves, no slip due, outside PLAYING, work done, reset line asserted
      ∧ (due.closing.starveTimeout ≤ min ((slipping .drop 19 0).quiet + 1) 65535 ∧ (slipping .drop 19 0).accepted = false)
      ∧ due.slipDue = .none
      ∧ (dueIn .holdover).state ≠ .playing ∧ played.frameDue = false ∧ held.pins.resetLine = true := by decide +kernel

theorem test_met_FrameStageOutsidePlay :
    (∀ st ∈ [PlayState.idle, .acquire, .filling],
      (boundary (dueIn st)).pins.resetLine = false ∧ ((boundary (dueIn st)).stream 2).frameDue = true
        ∧ ((boundary (dueIn st)).stream 2).state = st)
      ∧ ({ dueIn .filling with playPoint := 4998 } : Stream).playPoint + 1 ≠ due.fillStart
      ∧ ({ dueIn .filling with playPoint := 4999 } : Stream).playPoint + 1 = due.fillStart := by decide +kernel

theorem test_met_BoundaryStageStarvesAndRelocks :
    let holds (q b : Nat) (st : PlayState) : Stream := { slipping .none q b with state := st }
    (boundary (holds 18 0 .playing)).pins.resetLine = false ∧ ((boundary (holds 18 0 .playing)).stream 2).frameDue = true
      ∧ (boundary (holds 18 0 .playing)).tb.phase = 0
      ∧ (holds 18 0 .playing).state = .playing ∧ min ((holds 18 0 .playing).quiet + 1) 65535 < due.closing.starveTimeout
      ∧ (due.closing.starveTimeout ≤ min ((holds 19 0 .playing).quiet + 1) 65535 ∧ (holds 19 0 .playing).accepted = false)
      ∧ ({ holds 19 0 .playing with accepted := true } : Stream).accepted = true
      ∧ (holds 0 1998 .holdover).state = .holdover
      ∧ min ((holds 0 1998 .holdover).holdover + 1) 65535 < due.closing.holdoverLimit
      ∧ due.closing.holdoverLimit ≤ min ((holds 0 1999 .holdover).holdover + 1) 65535 := by decide +kernel

/-- A path 19 blocks quiet whose last segment came at house frame 0. -/
def quietPath : PathContext := { PathContext.cleared with blocksSince := 19, lastArrival := some 0 }

/-- A stream on the edge of SILENCE, both of whose paths time out at this boundary. -/
def falling : Stream :=
  { due with closing := { Tuning.default with watch := some 15, silenceWindow := 5 }, blockPeak := some 63,
             silentRun := 4, pathA := quietPath, pathB := quietPath }

theorem falls_silent : falling.FallsSilent :=
  ⟨.inl rfl, by decide +kernel, rfl, rfl, by decide +kernel, 63, rfl, by decide +kernel⟩

theorem test_met_MonitorBoundaryWorkOnBothPaths :
    let s := { boundary falling with tb := { Timebase.powerOn with h := 65535 } }
    s.pins.resetLine = false ∧ (s.stream 2).monitorDue = true ∧ (s.stream 2).enabled = true
      ∧ (s.stream 2).pathFails .a = true ∧ (s.stream 2).pathFails .b = true
      ∧ ((s.stream 2).path .a).lastArrival = some 0 ∧ ((s.stream 2).path .a).frozen = false ∧ 65535 ≤ (s.tb.h - 0).toNat
      ∧ PathContext.cleared.lastArrival = none
      ∧ (s.stream 2).peakDue = true ∧ (s.stream 2) = falling
      -- a gap of 65 534; a peak closed already; work not due, a stream not enabled, the reset line asserted
      ∧ ¬ 65535 ≤ (s.tb.h - 1).toNat ∧ played.peakDue = false ∧ played.monitorDue = false
      ∧ Stream.powerOn.enabled = false ∧ held.pins.resetLine = true := by decide +kernel

/-- A peak at the threshold does not fall silent. -/
theorem not_silent_at_threshold : ¬ ({ falling with blockPeak := some 64 } : Stream).FallsSilent := by
  rintro ⟨_, _, _, _, _, v, hv, hlt⟩
  cases hv
  exact absurd hlt (by decide +kernel)

theorem test_met_CloseOfTheBlockPeakTestsForSilence :
    let tests (st : Stream) : Prop :=
      (st.state = .playing ∨ st.state = .holdover) ∧ st.closing.watch ≠ none ∧ st.relockOpen = false
    due.peakDue = true ∧ played.peakDue = false ∧ ¬ tests due ∧ ¬ tests { falling with relockOpen := true } ∧ tests falling
      ∧ ({ falling with blockPeak := none } : Stream).blockPeak = none
      ∧ falling.closing.silenceThreshold = 64 ∧ ({ falling with blockPeak := some 64 } : Stream).blockPeak = some 64
      ∧ falling.blockPeak = some 63
      ∧ (min (falling.silentRun + 1) 65535 = falling.closing.silenceWindow ∧ falling.silence = false)
      ∧ min (({ falling with silentRun := 3 } : Stream).silentRun + 1) 65535 < falling.closing.silenceWindow
      -- the hand-off of the boundary's own frame closes a peak that is still open
      ∧ ((boundary falling).pins.resetLine = false ∧ ((boundary falling).stream 2).frameDue = true
          ∧ (boundary falling).tb.phase = 0 ∧ (((boundary falling).boundaryStage 2).stream 2).peakDue = true)
      ∧ (((boundary falling).boundaryStage 2).stream 2) = { falling with quiet := 1 } := by
  refine ⟨rfl, rfl, ?_, ?_, ?_, rfl, rfl, rfl, rfl, ?_, ?_, ?_, ?_⟩ <;> decide +kernel

/-! #### Route matrix and bus -/

/-- A state whose route matrix event is due, at block phase `p`. -/
def routing (p : Phase) (m : Matrix) : State :=
  { State.reset with tb := { Timebase.powerOn with phase := p }, matrix := { m with due := true } }

theorem test_met_RouteMatrixFormsEverySlot :
    (routing 47 State.reset.matrix).pins.resetLine = false ∧ (routing 47 State.reset.matrix).matrix.due = true
      ∧ (∀ k, ((routing 47 State.reset.matrix).stream k).frameDue = false)
      ∧ (routing 47 State.reset.matrix).tb.phase ≠ 0
      ∧ held.pins.resetLine = true ∧ State.reset.matrix.due = false ∧ ((boundary due).stream 2).frameDue = true := by
  decide +kernel

/-- Routes 3 and 4 name slot 9: route 3 drives it, and a PATTERN source has no stream and no channel. -/
theorem test_met_driver :
    let own : RouteRecord := { RouteRecord.default with inUse := true, stream := 63, channel := 15, slot := 9, gain := 32767 }
    let b : Bank := Bank.default.set 4 own
    (drivenBy b 9, drivenBy (b.set 3 { own with source := .pattern }) 9, drivenBy b 8)
      = (some ⟨.stream 63 15, 32767⟩, some ⟨.pattern, 32767⟩, none) := by decide +kernel

/-- Slot 255 in a transition from no driver. -/
def fading : Matrix :=
  { State.reset.matrix with slots := State.reset.matrix.slots.set 255 { Slot.powerOn with transition := .departing none } }

theorem no_transition (j : SlotId) : State.reset.matrix.slots[j].transition = .none := by
  simp [State.reset, State.powerOn, Matrix.powerOn, Slot.powerOn]

theorem test_met_BoundaryWorkOfTheRouteMatrix :
    ((routing 0 fading).pins.resetLine = false ∧ (routing 0 fading).matrix.due = true
      ∧ (∀ k, ((routing 0 fading).stream k).frameDue = false) ∧ (routing 0 fading).tb.phase = 0
      ∧ (routing 0 fading).matrix.swapWaiting = false)
      ∧ (routing 0 fading).matrix.slots[(255 : SlotId)].transition ≠ .none
      ∧ (∀ j : SlotId, (routing 0 State.reset.matrix).matrix.slots[j].transition = .none)
      ∧ (∀ j : SlotId, (routing 0 { State.reset.matrix with swapWaiting := true }).matrix.slots[j].transition = .none)
      ∧ ((routing 47 fading).tb.phase ≠ 0 ∧ held.pins.resetLine = true ∧ State.reset.matrix.due = false
          ∧ ((boundary due).stream 2).frameDue = true)
      ∧ (swapping.matrix.swapWaiting = true ∧ swapping.inProgress = some ⟨6, 0, ask 0 0 []⟩ ∧ swapping.tb.phase = 0
          ∧ swapping.matrix.due = true) :=
  ⟨by decide +kernel, by decide +kernel, no_transition, no_transition, by decide +kernel, by decide +kernel⟩

theorem test_met_BusFrameCarriesValuesOfTwoFramesBefore :
    let v : SlotValues := Vector.replicate 256 1
    let s := { State.reset with bus := { State.reset.bus with due := true, formed0 := some v, formed2 := some v } }
    s.bus.due = true ∧ s.bus.formed0 = some v ∧ s.bus.formed2 = some v ∧ State.reset.bus.due = false
      ∧ State.reset.bus.formed2 = none ∧ ((7 : Fin 8).val = (255 : SlotId).val / 32 ∧ (31 : Fin 32).val = (255 : SlotId).val % 32) :=
  ⟨rfl, rfl, rfl, rfl, rfl, by decide⟩

theorem test_met_EffectiveGainOfAContributor :
    32767 ≤ 32767 ∧ 48 ≤ 48 ∧ (0 ≤ 48 ∧ 0 ≤ 32767) := by decide +kernel

/-! #### Requests -/

/-- After power-on the part takes a request that asks unit 7. -/
theorem takes_ask (c o : Byte) (i n : Nat) (d : List Byte) : State.reset.Takes ⟨c, o, ask i n d⟩ :=
  ⟨by decide +kernel, by decide +kernel,
    .inr ⟨by show (7 : Byte) ≠ 0; decide, by show State.reset.dev.unit = some 7; decide +kernel⟩⟩

/-- And one that tells every part, if general requests are served. -/
theorem takes_tell (c o : Byte) (i n : Nat) (d : List Byte) (h : 2 ≤ c.toNat ∧ c.toNat ≤ 7) :
    State.reset.Takes ⟨c, o, tell i n d⟩ := ⟨by decide +kernel, by decide +kernel, .inl ⟨rfl, h⟩⟩

/-- An index and a count that name records. -/
theorem names_of {i n lo sz : Nat} {d : List Byte} (h : 1 ≤ n ∧ n ≤ 16 ∧ lo ≤ i ∧ i + n ≤ lo + sz) (hi : i < 256) :
    Names (ask i n d) lo sz := by
  obtain ⟨h1, h2, h3, h4⟩ := h
  have e1 : (ask i n d).index.toNat = i := Nat.mod_eq_of_lt hi
  have e2 : (ask i n d).count.toNat = n := Nat.mod_eq_of_lt (by omega)
  exact ⟨by omega, by omega, by omega, by omega⟩

theorem test_met_TakenRequestIsCountedAndAnswered :
    (tell 0 0 []).unit = 0 ∧ (ask 0 0 []).unit ≠ 0 := by decide +kernel

theorem test_met_ReadReturnsTheNamedRecords :
    (State.reset.Takes ⟨1, 1, ask 49 16 []⟩ ∧ Names (ask 49 16 []) 1 64)
      ∧ (State.reset.Takes ⟨1, 2, ask 1 1 []⟩ ∧ Names (ask 1 1 []) 1 64)
      ∧ (State.reset.Takes ⟨1, 9, ask 64 1 []⟩ ∧ Names (ask 64 1 []) 1 64)
      ∧ (State.reset.Takes ⟨1, 10, ask 49 16 []⟩ ∧ Names (ask 49 16 []) 1 64)
      ∧ (State.reset.Takes ⟨1, 3, ask 240 16 []⟩ ∧ Names (ask 240 16 []) 0 256)
      ∧ (State.reset.Takes ⟨1, 4, ask 255 1 []⟩ ∧ Names (ask 255 1 []) 0 256)
      ∧ (State.reset.Takes ⟨1, 5, ask 0 8 []⟩ ∧ Names (ask 0 8 []) 0 8)
      ∧ (State.reset.Takes ⟨1, 6, ask 32 16 []⟩ ∧ Names (ask 32 16 []) 0 48)
      ∧ (State.reset.Takes ⟨1, 7, ask 0 1 []⟩ ∧ Names (ask 0 1 []) 0 1)
      ∧ (State.reset.Takes ⟨1, 8, ask 0 2 []⟩ ∧ Names (ask 0 2 []) 0 2)
      ∧ (State.reset.Takes ⟨1, 11, ask 0 1 []⟩ ∧ Names (ask 0 1 []) 0 1) := by
  refine ⟨⟨takes_ask .., ?_⟩, ⟨takes_ask .., ?_⟩, ⟨takes_ask .., ?_⟩, ⟨takes_ask .., ?_⟩, ⟨takes_ask .., ?_⟩,
    ⟨takes_ask .., ?_⟩, ⟨takes_ask .., ?_⟩, ⟨takes_ask .., ?_⟩, ⟨takes_ask .., ?_⟩, ⟨takes_ask .., ?_⟩,
    ⟨takes_ask .., ?_⟩⟩ <;> exact names_of (by decide) (by decide)

theorem test_met_CollectReturnsAndZeroes :
    (State.reset.Takes ⟨10, 8, ask 0 2 []⟩ ∧ Names (ask 0 2 []) 0 2)
      ∧ (State.reset.Takes ⟨10, 9, ask 49 16 []⟩ ∧ Names (ask 49 16 []) 1 64)
      ∧ (State.reset.Takes ⟨10, 10, ask 1 1 []⟩ ∧ Names (ask 1 1 []) 1 64) := by
  refine ⟨⟨takes_ask .., ?_⟩, ⟨takes_ask .., ?_⟩, ⟨takes_ask .., ?_⟩⟩ <;> exact names_of (by decide) (by decide)

theorem test_met_EventRequestsReturnPairsInOrder :
    1 ≤ (ask 0 16 []).count.toNat ∧ (ask 0 16 []).count.toNat ≤ 16 ∧ State.reset.Takes ⟨8, 0, ask 0 16 []⟩
      ∧ State.reset.Takes ⟨9, 255, ask 0 1 []⟩ :=
  ⟨by decide +kernel, by decide +kernel, takes_ask .., takes_ask ..⟩

theorem test_met_WriteStreamStoresAllOrNothing :
    State.reset.Takes ⟨2, 1, ask 5 1 writtenRecord⟩ ∧ State.reset.pins.protect = false
      ∧ Names (ask 64 1 writtenRecord) 1 64 ∧ (ask 5 1 writtenRecord).count.toNat * 24 ≤ writtenRecord.length
      ∧ readRecords readStreamRecord 24 1 (List.replicate 24 0) = none
      ∧ (∃ w, readRecords readStreamRecord 24 1 writtenRecord = some [w] ∧ ((one 2 played).stream 2).enabled = true
          ∧ w.shape ≠ ((one 2 played).stream 2).record.shape ∧ (State.reset.stream 4).enabled = false) :=
  ⟨takes_ask .., by decide +kernel, names_of (by decide) (by decide), by decide +kernel, by decide +kernel,
    ⟨⟨8, 24, 0, 32, 1200, .both⟩, ⟨20, 2000, 20, .fade, 8, 2, 1024, some 0, 64, 5000⟩⟩, by decide +kernel,
    by decide +kernel, by decide +kernel, by decide +kernel⟩

theorem test_met_WritesOfRoutesCoverAndPattern :
    State.reset.pins.protect = false
      ∧ (State.reset.Takes ⟨2, 4, ask 255 1 (List.replicate 11 0)⟩ ∧ Names (ask 255 1 (List.replicate 11 0)) 0 256
          ∧ readRecords readRouteRecord 11 1 (List.replicate 11 0) = none
          ∧ readRecords readRouteRecord 11 1 RouteRecord.default.toBytes = some [RouteRecord.default])
      ∧ (State.reset.Takes ⟨2, 5, ask 7 1 [0, 1, 1]⟩ ∧ Names (ask 7 1 [0, 1, 1]) 0 8
          ∧ readRecords readCoverEntry 3 1 [0, 1, 1] = none ∧ readRecords readCoverEntry 3 1 [1, 64, 1] = some [⟨true, 63, 0⟩])
      ∧ (State.reset.Takes ⟨2, 6, ask 47 1 [0x80, 0, 0]⟩ ∧ Names (ask 47 1 [0x80, 0, 0]) 0 48
          ∧ 1 * 3 ≤ (ask 47 1 [0x80, 0, 0]).data.length) := by
  refine ⟨rfl, ⟨takes_ask .., names_of (by decide) (by decide), ?_, ?_⟩,
    ⟨takes_ask .., names_of (by decide) (by decide), ?_, ?_⟩, takes_ask .., names_of (by decide) (by decide), ?_⟩ <;>
    decide +kernel

theorem test_met_WriteDeviceAnswersFromTheOldSettings :
    State.reset.Takes ⟨2, 7, ask 0 1 State.reset.deviceBytes⟩ ∧ State.reset.pins.protect = false
      ∧ Names (ask 0 1 State.reset.deviceBytes) 0 1 ∧ State.reset.deviceBytes.length = 28
      ∧ (readDeviceWrite State.reset.deviceBytes).isSome = true ∧ readDeviceWrite (List.replicate 28 0) = none :=
  ⟨takes_ask .., rfl, names_of (by decide) (by decide), by decide +kernel, by decide +kernel, by decide +kernel⟩

/-- The figures of a record of 1 page that holds `c` channels of 48 frames. -/
def slotsOf (c : Nat) : Nat := ({ Shape.default with channels := c, segLen := 48 } : Shape).slots

theorem test_met_EnableFixesFiguresOrRefuses :
    State.reset.Takes ⟨3, 1, ask 64 1 []⟩ ∧ State.reset.pins.protect = false ∧ Names (ask 64 1 []) 1 64
      -- nothing enabled, small or shared; enabled; 3 places in a page; two named streams in one page
      ∧ ((State.reset.stream 63).enabled = false ∧ 4 ≤ (State.reset.stream 63).record.shape.slots)
      ∧ ((one 2 played).stream 2).enabled = true ∧ (1 * 768 / (4 * 48) = 4 ∧ slotsOf 4 = 4) ∧ 1 * 768 / (5 * 48) < 4
      ∧ (State.reset.stream 0).record.shape.overlaps (State.reset.stream 1).record.shape = true
      ∧ (played.record.shape.overlaps (State.reset.stream 63).record.shape = false) :=
  ⟨takes_ask .., rfl, names_of (by decide) (by decide), by decide +kernel, by decide +kernel, by decide +kernel,
    by decide +kernel, by decide +kernel, by decide +kernel⟩

theorem test_met_FiguresOfAnEnable :
    1 ≤ Shape.default.channels ∧ 1 ≤ Shape.default.segLen
      ∧ ({ Shape.default with channels := 1, segLen := 6, pageCount := 32 } : Shape).slots = 4096
      ∧ ({ Shape.default with pageCount := 0 } : Shape).slots = 0 := by decide +kernel

theorem test_met_DisableAndRelockTheNamedStreams :
    State.reset.pins.protect = false ∧ Names (ask 49 16 []) 1 64 ∧ State.reset.Takes ⟨4, 1, ask 49 16 []⟩
      ∧ State.reset.Takes ⟨5, 1, ask 49 16 []⟩ :=
  ⟨rfl, names_of (by decide) (by decide), takes_ask .., takes_ask ..⟩

theorem test_met_SwapWaitsUnanswered :
    State.reset.Takes ⟨6, 0, tell 0 0 []⟩ ∧ State.reset.pins.protect = false := ⟨takes_tell _ _ _ _ _ (by decide), rfl⟩

theorem test_met_CopyMakesTheBanksAlike :
    State.reset.Takes ⟨7, 255, ask 0 0 []⟩ ∧ State.reset.pins.protect = false
      ∧ State.reset.matrix.standbyBank = State.reset.matrix.activeBank
      ∧ (swapping.pins.resetLine = false ∧ swapping.inProgress ≠ none ∧ (tell 0 0 []).unit = 0 ∧ (ask 0 0 []).unit ≠ 0
          ∧ swapping.dev.unit = some (ask 0 0 []).unit) :=
  ⟨takes_ask .., rfl, rfl, by decide +kernel⟩

theorem test_met_ResetRequestAnswersAndThenResets :
    State.reset.Takes ⟨11, 0, ask 0 0 [0]⟩ ∧ State.reset.Takes ⟨11, 0, ask 0 0 [1]⟩
      ∧ State.reset.pins.protect = false ∧ (ask 0 0 [0]).data = 0 :: [] ∧ (ask 0 0 [1]).data = 1 :: [] :=
  ⟨takes_ask .., takes_ask .., rfl, rfl, rfl⟩

theorem test_met_ResetsCancelEveryTransition :
    State.reset.pins.resetLine = false ∧ State.reset.Takes ⟨11, 0, ask 0 0 [0]⟩
      ∧ State.reset.Takes ⟨11, 0, ask 0 0 [1]⟩ ∧ State.reset.pins.protect = false :=
  ⟨rfl, takes_ask .., takes_ask .., rfl⟩

theorem test_met_RequestsAreRefusedInOrder :
    -- not served: to another unit, a general READ, the reset line; served with a SWAP in progress; guarded; taken
    State.reset.dev.unit ≠ some 8 ∧ ¬ (2 ≤ (1 : Byte).toNat) ∧ held.pins.resetLine = true
      ∧ (swapping.pins.resetLine = false ∧ swapping.dev.unit = some (ask 0 0 []).unit ∧ swapping.inProgress ≠ none)
      ∧ State.Takes { State.reset with pins := ⟨0, true, false⟩ } ⟨11, 0, ask 0 0 [0]⟩
      ∧ State.reset.Takes ⟨2, 2, ask 1 1 []⟩
      -- count 17 and index 50 with count 16 name no records; 23 bytes are too few; a flag byte of 2
      ∧ (State.reset.Takes ⟨1, 1, ask 1 17 []⟩ ∧ ¬ Names (ask 1 17 []) 1 64 ∧ ¬ Names (ask 50 16 []) 1 64)
      ∧ (State.reset.Takes ⟨2, 1, ask 1 1 (List.replicate 23 0)⟩ ∧ State.reset.Takes ⟨11, 0, ask 0 0 [2]⟩)
      ∧ (State.reset.Takes ⟨0, 1, ask 0 0 []⟩ ∧ State.reset.Takes ⟨12, 1, ask 0 0 []⟩
          ∧ State.reset.Takes ⟨3, 2, ask 0 0 []⟩) :=
  ⟨by decide +kernel, by decide +kernel, rfl, by decide +kernel, ⟨rfl, rfl, .inr ⟨by decide +kernel, rfl⟩⟩, takes_ask ..,
    ⟨takes_ask .., fun h => absurd h.most (by decide +kernel), fun h => absurd h.upTo (by decide +kernel)⟩,
    ⟨takes_ask .., takes_ask ..⟩, takes_ask .., takes_ask .., takes_ask ..⟩

theorem test_met_LatchCountsAndAlertsOnce :
    noted.EventsSound ∧ (EventKind.refLost.device = true ∧ EventKind.starved.device = false ∧ 1 ≤ 64 ∧ 64 ≤ 64)
      ∧ noted.dev.eventEnable.getLsbD (EventKind.refLost.priority - 1) = true
      ∧ { noted with dev := { noted.dev with eventEnable := 0 } }.dev.eventEnable.getLsbD 10 = false
      ∧ (⟨.refLost, 0, 255⟩ ∈ noted.ev.events ∧ ⟨.starved, 64, 1⟩ ∈ noted.ev.events)
      ∧ (noted.dev.alertEnable.getLsbD (EventKind.starved.priority - 1) = true ∧ noted.ev.alertPending = false
          ∧ noted.ev.alertDest = none ∧ (∀ old, ⟨.starved, 1, old⟩ ∉ noted.ev.events))
      ∧ (∃ u : State, u.EventsSound ∧ u.ev.alertDest = some ⟨0x0200000000AA, .b, none⟩ ∧ u.ev.alertPending = false
          ∧ u.dev.alertEnable.getLsbD (EventKind.refLost.priority - 1) = true) :=
  ⟨noted_sound, by decide +kernel, by decide +kernel, by decide +kernel, by decide +kernel,
    ⟨by decide +kernel, rfl, rfl, fun old h => by simp [noted, EventUnit.cleared] at h⟩,
    ⟨{ noted with ev := { noted.ev with alertDest := some ⟨0x0200000000AA, .b, none⟩ } },
      ⟨noted_sound.entries, noted_sound.order⟩, rfl, rfl, by decide +kernel⟩⟩

theorem test_met_FrontCommandIsTaken :
    waiting.pending = .audioSegment .a (seg 105 5060) :: [] ∧ State.reset.pending = [] := ⟨rfl, rfl⟩

end Sys2Proof.Tests
end

section
/-! The transmit queues and the settings of the ports, along every step (R1, R2, R3, R12, R16). -/

namespace Sys2Proof.Machine

/-! ### What an event keeps at a port -/

/-- A port changed in no way that a transmit queue or the port's settings could suffer from: what hand-overs, counts and
legal settings do. -/
structure LinkPort.KeepsTo (l m : LinkPort) : Prop where
  link : m.linkUp = l.linkUp
  bound : l.queue.length ≤ 4 → m.queue.length ≤ 4
  down : l.linkUp = false → l.queue = [] → m.queue = []
  settings : l.SettingsSound → m.SettingsSound

/-- The settings of a port are sound by its station address and its transport type alone. -/
theorem LinkPort.SettingsSound.congr {l m : LinkPort} (h : l.SettingsSound) (hs : m.station = l.station)
    (he : m.etherType = l.etherType) : m.SettingsSound :=
  ⟨hs ▸ h.individual, hs ▸ h.station, he ▸ h.etherType, he ▸ h.untagged⟩

theorem LinkPort.KeepsTo.refl (l : LinkPort) : l.KeepsTo l := ⟨rfl, id, fun _ => id, id⟩

theorem LinkPort.KeepsTo.trans {l m n : LinkPort} (h : l.KeepsTo m) (h' : m.KeepsTo n) : l.KeepsTo n where
  link := h'.link.trans h.link
  bound := h'.bound ∘ h.bound
  down hd hq := h'.down (h.link.trans hd) (h.down hd hq)
  settings := h'.settings ∘ h.settings

theorem LinkPort.keepsTo_hand (l : LinkPort) (f : TxFrame) : l.KeepsTo (l.hand f) where
  link := l.hand_linkUp f
  bound := l.hand_length f
  down hd hq := by rw [LinkPort.hand_lost f (.inl hd), hq]
  settings h := h.congr (l.hand_station f) (l.hand_etherType f)

theorem LinkPort.keepsTo_counters (l : LinkPort) (c : PortCounters) : l.KeepsTo { l with counters := c } :=
  ⟨rfl, id, fun _ => id, fun h => h.congr rfl rfl⟩

/-- With the reset line released, such a change keeps a sound queue sound. -/
theorem LinkPort.KeepsTo.queueSound {l m : LinkPort} (h : l.KeepsTo m) (hq : l.QueueSound false) :
    m.QueueSound false := by
  obtain ⟨hb, hd, -⟩ := hq
  exact ⟨h.bound hb, fun hm => h.down (h.link.symm.trans hm) (hd (h.link.symm.trans hm)), by simp⟩

/-- Both ports changed in that way alone. -/
def State.PortsKeepTo (s t : State) : Prop := ∀ p, (s.port p).KeepsTo (t.port p)

theorem State.PortsKeepTo.trans {s t u : State} (h : s.PortsKeepTo t) (h' : t.PortsKeepTo u) : s.PortsKeepTo u :=
  fun p => (h p).trans (h' p)

/-- An event that leaves both ports as they were. -/
theorem State.portsKeepTo_of_eq {s t : State} (ha : t.portA = s.portA := by simp) (hb : t.portB = s.portB := by simp) :
    s.PortsKeepTo t :=
  fun p => State.port_congr ha hb p ▸ .refl _

theorem State.PortsKeepTo.refl (s : State) : s.PortsKeepTo s := State.portsKeepTo_of_eq

theorem State.portsKeepTo_modPort {s : State} {p : Port} {f : LinkPort → LinkPort}
    (h : (s.port p).KeepsTo (f (s.port p))) :
    s.PortsKeepTo (s.modPort p f) := fun q => by
  by_cases hq : q = p
  · subst hq
    rw [State.port_modPort_same]
    exact h
  · rw [State.port_modPort_other s f hq]
    exact .refl _

/-- An event that at each port hands over a frame or does nothing. -/
theorem State.portsKeepTo_of_hand {s t : State} (h : ∀ p, t.port p = s.port p ∨ ∃ f, t.port p = (s.port p).hand f) :
    s.PortsKeepTo t := fun p => by
  rcases h p with h | ⟨f, h⟩
  · exact h ▸ .refl _
  · exact h ▸ (s.port p).keepsTo_hand f

theorem State.portsKeepTo_latch (s : State) (kind : EventKind) (n : Nat) : s.PortsKeepTo (s.latch kind n) :=
  State.portsKeepTo_of_hand (s.port_latch kind n)

theorem State.portsKeepTo_raise (s : State) (k : StreamId) (a : StreamAlarm) : s.PortsKeepTo (s.raise k a) :=
  State.portsKeepTo_of_hand (s.port_raise k a)

theorem State.portsKeepTo_relock (s : State) (k : StreamId) : s.PortsKeepTo (s.relock k) :=
  State.portsKeepTo_of_hand (s.port_relock k)

theorem State.portsKeepTo_answer (s : State) (r : Request) (res : Result) (data : List Byte) :
    s.PortsKeepTo (s.answer r res data) := State.portsKeepTo_of_hand (s.port_answer r res data)

theorem State.portsKeepTo_take (s : State) (r : Request) : s.PortsKeepTo (s.take r) := fun p => by
  rcases s.port_take r p with h | ⟨c, h⟩
  · exact h ▸ .refl _
  · exact h ▸ (s.port p).keepsTo_counters c

theorem State.portsKeepTo_countPort (s : State) (p : Port) (f : PortCounters → PortCounters) :
    s.PortsKeepTo (s.countPort p f) := State.portsKeepTo_modPort ((s.port p).keepsTo_counters _)

theorem State.portsKeepTo_modStream (s : State) (k : StreamId) (f : Stream → Stream) : s.PortsKeepTo (s.modStream k f) :=
  State.portsKeepTo_of_eq

theorem State.portsKeepTo_raiseRefLost (s : State) : s.PortsKeepTo s.raiseRefLost := by
  rcases s.raiseRefLost_cases with h | h
  · rw [h]
    exact .refl s
  · rw [h]
    exact (State.portsKeepTo_of_eq).trans (State.portsKeepTo_latch _ _ _)

/-! ### The work of the blocks -/

theorem State.portsKeepTo_testPeak (s : State) (k : StreamId) (st : Stream) : s.PortsKeepTo (s.testPeak k st) := by
  unfold State.testPeak
  repeat' split
  · exact .refl s
  · exact (s.portsKeepTo_modStream k _).trans (State.portsKeepTo_raise _ _ _)
  · exact s.portsKeepTo_modStream k _
  all_goals exact State.portsKeepTo_of_eq

theorem State.portsKeepTo_closePeak (s : State) (k : StreamId) : s.PortsKeepTo (s.closePeak k) := by
  unfold State.closePeak
  split
  · exact (s.portsKeepTo_modStream k _).trans (State.portsKeepTo_testPeak _ _ _)
  · exact .refl s

theorem State.portsKeepTo_advancePath (s : State) (k : StreamId) (p : Port) : s.PortsKeepTo (s.advancePath k p) := by
  unfold State.advancePath
  repeat' split
  · exact (s.portsKeepTo_modStream k _).trans (State.portsKeepTo_raise _ _ _)
  · exact s.portsKeepTo_modStream k _
  · exact .refl s

theorem State.portsKeepTo_monitorWork (s : State) (k : StreamId) : s.PortsKeepTo (s.monitorWork k) :=
  (s.portsKeepTo_advancePath k .a).trans <| (State.portsKeepTo_advancePath _ k .b).trans <|
    (State.portsKeepTo_modStream _ k _).trans (State.portsKeepTo_closePeak _ k)

theorem State.portsKeepTo_setServoLimit (s : State) (k : StreamId) (holds : Bool) :
    s.PortsKeepTo (s.setServoLimit k holds) := by
  unfold State.setServoLimit
  repeat' split
  · exact s.portsKeepTo_raise k .servoLimit
  · exact State.portsKeepTo_of_eq
  · exact .refl s

theorem State.portsKeepTo_servoWork (s : State) (k : StreamId) : s.PortsKeepTo (s.servoWork k) := by
  unfold State.servoWork
  split
  · exact (s.portsKeepTo_modStream k _).trans (State.portsKeepTo_setServoLimit _ _ _)
  · exact s.portsKeepTo_modStream k _
  · exact (s.portsKeepTo_modStream k _).trans (State.portsKeepTo_setServoLimit _ _ _)
  · exact (s.portsKeepTo_modStream k _).trans (State.portsKeepTo_setServoLimit _ _ _)
  · exact .refl s

theorem State.portsKeepTo_boundaryStage (s : State) (k : StreamId) : s.PortsKeepTo (s.boundaryStage k) := by
  unfold State.boundaryStage
  repeat' split
  · exact (s.portsKeepTo_modStream k _).trans (State.portsKeepTo_raise _ _ _)
  · exact s.portsKeepTo_modStream k _
  · exact s.portsKeepTo_relock k
  · exact s.portsKeepTo_modStream k _
  all_goals exact .refl s

theorem State.portsKeepTo_handToDetector (s : State) (k : StreamId) (formedIn : PlayState) (out : Frame) :
    s.PortsKeepTo (s.handToDetector k formedIn out) :=
  (s.portsKeepTo_closePeak k).trans (State.portsKeepTo_modStream _ _ _)

theorem State.portsKeepTo_frameStage (s : State) (k : StreamId) : s.PortsKeepTo (s.frameStage k) := by
  unfold State.frameStage
  dsimp only
  split
  · exact (s.portsKeepTo_modStream k _).trans <|
      (State.portsKeepTo_handToDetector _ _ _ _).trans (State.portsKeepTo_latch _ _ _)
  · exact (s.portsKeepTo_modStream k _).trans (State.portsKeepTo_handToDetector _ _ _ _)

theorem State.portsKeepTo_playoutWork (s : State) (k : StreamId) : s.PortsKeepTo (s.playoutWork k) := by
  unfold State.playoutWork
  split
  · exact (s.portsKeepTo_boundaryStage k).trans (State.portsKeepTo_frameStage _ k)
  · exact s.portsKeepTo_frameStage k

theorem State.portsKeepTo_reject (s : State) (k : StreamId) : s.PortsKeepTo (s.reject k) := by
  unfold State.reject
  split
  · exact s.portsKeepTo_relock k
  · exact s.portsKeepTo_modStream k _

theorem State.portsKeepTo_conclude (s : State) (k : StreamId) (g : Segment) (v : Verdict) :
    s.PortsKeepTo (s.conclude k g v) := by
  cases v
  case outOfState => exact .refl s
  case duplicate => exact .refl s
  case mismatchShape =>
    unfold State.conclude
    dsimp only
    split
    · exact .refl s
    · exact s.portsKeepTo_reject k
  case mismatchTimeline => exact s.portsKeepTo_reject k
  case late => exact s.portsKeepTo_reject k
  case early => exact s.portsKeepTo_reject k
  case first => exact State.portsKeepTo_of_eq rfl rfl
  case accepted =>
    unfold State.conclude
    dsimp only
    split
    · exact State.portsKeepTo_of_eq rfl rfl
    · exact State.portsKeepTo_of_eq rfl rfl

theorem State.portsKeepTo_classify (s : State) (k : StreamId) (p : Port) (g : Segment) :
    s.PortsKeepTo (s.classify k p g) :=
  (State.portsKeepTo_of_eq).trans (State.portsKeepTo_conclude _ _ _ _)

theorem State.portsKeepTo_performSwap (s : State) : s.PortsKeepTo s.performSwap := by
  unfold State.performSwap State.completeSwap
  have h : s.PortsKeepTo (State.latch { s with matrix := s.matrix.exchange } .bankSwapped 0) :=
    (State.portsKeepTo_of_eq).trans (State.portsKeepTo_latch _ _ _)
  split
  · exact h
  · rename_i r _
    exact (h.trans (State.portsKeepTo_answer _ r .ok [])).trans State.portsKeepTo_of_eq

theorem State.portsKeepTo_matrixBoundary (s : State) : s.PortsKeepTo s.matrixBoundary := by
  unfold State.matrixBoundary
  have h : s.PortsKeepTo { s with matrix := s.matrix.endTransitions } := State.portsKeepTo_of_eq
  have copied (t : State) : t.PortsKeepTo t.copyPattern := State.portsKeepTo_of_eq
  dsimp only
  split
  · exact (h.trans (State.portsKeepTo_performSwap _)).trans (copied _)
  · exact h.trans (copied _)

theorem State.portsKeepTo_matrixWork (s : State) : s.PortsKeepTo s.matrixWork := by
  unfold State.matrixWork
  split
  · exact s.portsKeepTo_matrixBoundary.trans State.portsKeepTo_of_eq
  · exact State.portsKeepTo_of_eq

/-! ### The timebase -/

/-- A house frame without a mark latches nothing, so it leaves the ports, the reset line asserted or not (R54, R66). -/
theorem State.port_houseFrame_unmarked (s : State) (p : Port) : (s.houseFrame false).port p = s.port p := by
  unfold State.houseFrame
  dsimp only
  cases s.pins.resetLine <;> cases p <;> rfl

theorem State.portsKeepTo_houseFrame (s : State) (mark : Bool) : s.PortsKeepTo (s.houseFrame mark) := by
  unfold State.houseFrame
  dsimp only
  split
  · refine .trans ?_ (State.portsKeepTo_latch _ _ _)
    split
    · exact State.portsKeepTo_of_eq
    · exact State.portsKeepTo_of_eq
  · split
    · exact State.portsKeepTo_of_eq
    · exact State.portsKeepTo_of_eq

theorem State.portsKeepTo_lockReference (s : State) (mark : Bool) : s.PortsKeepTo (s.lockReference mark) :=
  (State.portsKeepTo_of_eq).trans <|
    (State.portsKeepTo_houseFrame _ mark).trans (State.portsKeepTo_latch _ _ _)

theorem State.portsKeepTo_edge (s : State) (e : Edge) : s.PortsKeepTo (s.edge e) := by
  unfold State.edge
  repeat' split
  · exact .refl s
  · exact (State.portsKeepTo_of_eq).trans (State.portsKeepTo_houseFrame _ _)
  · exact .refl s
  · exact s.portsKeepTo_lockReference e.mark
  all_goals exact State.portsKeepTo_of_eq

theorem State.portsKeepTo_missedEdge (s : State) : s.PortsKeepTo s.missedEdge := by
  unfold State.missedEdge
  split
  · exact (s.portsKeepTo_houseFrame false).trans <|
      (State.portsKeepTo_of_eq).trans (State.portsKeepTo_raiseRefLost _)
  · exact (s.portsKeepTo_houseFrame false).trans (State.portsKeepTo_of_eq)

/-! ### The management agent -/

/-- The transport type that power-on and a RESET with clear-tables give is a legal one (R1). -/
theorem defaultEtherType_legal : 0x0600 ≤ defaultEtherType.toNat ∧ defaultEtherType ≠ 0x8100 := by decide

theorem LinkPort.keepsTo_defaultEtherType (l : LinkPort) : l.KeepsTo { l with etherType := defaultEtherType } :=
  ⟨rfl, id, fun _ => id, fun h => ⟨h.individual, h.station, defaultEtherType_legal.1, defaultEtherType_legal.2⟩⟩

theorem State.portsKeepTo_softReset (s : State) : s.PortsKeepTo s.softReset := fun p => by
  cases p <;> exact LinkPort.keepsTo_counters _ _

theorem State.portsKeepTo_clearReset (s : State) : s.PortsKeepTo s.clearReset :=
  s.portsKeepTo_softReset.trans fun p => by cases p <;> exact LinkPort.keepsTo_defaultEtherType _

theorem stationOk_iff (m : Mac) : stationOk m = true ↔ m.getLsbD 40 = false ∧ m ≠ 0 := by simp [stationOk, isGroup]

theorem etherTypeOk_iff (t : EtherType) : etherTypeOk t = true ↔ 0x0600 ≤ t.toNat ∧ t ≠ 0x8100 := by simp [etherTypeOk]

/-- The settings that a WRITE of DEVICE may carry are legal ones (R2). -/
theorem readDeviceWrite_legal {b : List Byte} {w : DeviceWrite} (h : readDeviceWrite b = some w) :
    (w.unit ≠ 0 ∧ w.unit ≠ 255) ∧ (stationOk w.stationA = true ∧ stationOk w.stationB = true)
      ∧ etherTypeOk w.etherTypeA = true ∧ etherTypeOk w.etherTypeB = true := by
  unfold readDeviceWrite at h
  split at h
  · dsimp only at h
    split at h
    · rename_i hc
      cases h
      simpa [and_assoc] using hc
    · cases h
  · cases h

theorem LinkPort.keepsTo_settings (l : LinkPort) {m : Mac} {t : EtherType} (hm : stationOk m = true)
    (ht : etherTypeOk t = true) : l.KeepsTo { l with station := m, etherType := t } := by
  obtain ⟨individual, station⟩ := (stationOk_iff m).mp hm
  obtain ⟨etherType, untagged⟩ := (etherTypeOk_iff t).mp ht
  exact ⟨rfl, id, fun _ => id, fun _ => ⟨individual, station, etherType, untagged⟩⟩

theorem State.portsKeepTo_writeDeviceSettings (s : State) (r : Request) : s.PortsKeepTo (s.writeDeviceSettings r) := by
  unfold State.writeDeviceSettings
  split
  · exact s.portsKeepTo_answer r _ _
  · rename_i w hw
    obtain ⟨-, ⟨hA, hB⟩, hA', hB'⟩ := readDeviceWrite_legal hw
    refine (s.portsKeepTo_answer r .ok []).trans fun p => ?_
    cases p
    · exact LinkPort.keepsTo_settings _ hA hA'
    · exact LinkPort.keepsTo_settings _ hB hB'

/-- A change of state that leaves the ports, and then a reply. -/
theorem State.portsKeepTo_answer_of_eq {s t : State} (r : Request) (res : Result) (data : List Byte)
    (ha : t.portA = s.portA := by simp) (hb : t.portB = s.portB := by simp) : s.PortsKeepTo (t.answer r res data) :=
  (State.portsKeepTo_of_eq ha hb).trans (t.portsKeepTo_answer r res data)

theorem State.portsKeepTo_doWrite (s : State) (r : Request) (o : ObjectKind) : s.PortsKeepTo (s.doWrite r o) := by
  cases o
  case stream =>
    unfold State.doWrite State.writeStreams
    dsimp only
    repeat' split
    all_goals exact State.portsKeepTo_answer_of_eq r _ _
  case routeStandby =>
    unfold State.doWrite State.writeRoutes
    dsimp only
    split <;> exact State.portsKeepTo_answer_of_eq r _ _
  case cover =>
    unfold State.doWrite State.writeCovers
    dsimp only
    split <;> exact State.portsKeepTo_answer_of_eq r _ _
  case pattern =>
    unfold State.doWrite State.writePatterns
    dsimp only
    split <;> exact State.portsKeepTo_answer_of_eq r _ _
  case device => exact s.portsKeepTo_writeDeviceSettings r
  all_goals exact s.portsKeepTo_answer r _ _

theorem State.portsKeepTo_doEnable (s : State) (r : Request) : s.PortsKeepTo (s.doEnable r) := by
  unfold State.doEnable
  dsimp only
  split <;> exact State.portsKeepTo_answer_of_eq r _ _

theorem State.portsKeepTo_relockAll (s : State) (ks : List StreamId) : s.PortsKeepTo (s.relockAll ks) := by
  unfold State.relockAll
  induction ks generalizing s with
  | nil => exact .refl s
  | cons k ks ih =>
    rw [List.foldl_cons]
    refine .trans ?_ (ih _)
    split
    · exact s.portsKeepTo_relock k
    · exact .refl s

theorem LinkPort.keepsTo_zeroCounters_if (l : LinkPort) (c : Prop) [Decidable c] :
    l.KeepsTo (if c then l.zeroCounters else l) := by
  split
  · exact l.keepsTo_counters _
  · exact .refl l

theorem State.portsKeepTo_zeroed (s : State) (o : ObjectKind) (index count : Nat) :
    s.PortsKeepTo (s.zeroed o index count) := by
  cases o
  case portCounters =>
    intro p
    cases p
    · exact s.portA.keepsTo_zeroCounters_if (0 ∈ named index count)
    · exact s.portB.keepsTo_zeroCounters_if (1 ∈ named index count)
  all_goals exact State.portsKeepTo_of_eq (by simp [State.zeroed]) (by simp [State.zeroed])

theorem State.portsKeepTo_doReset (s : State) (r : Request) (clear : Bool) : s.PortsKeepTo (s.doReset r clear) := by
  unfold State.doReset
  split
  · exact (s.portsKeepTo_answer r _ _).trans (State.portsKeepTo_clearReset _)
  · exact (s.portsKeepTo_answer r _ _).trans (State.portsKeepTo_softReset _)

theorem State.portsKeepTo_execute (s : State) (r : Request) (k : RequestKind) : s.PortsKeepTo (s.execute r k) := by
  cases k
  case read =>
    unfold State.execute
    dsimp only
    split <;> exact s.portsKeepTo_answer r _ _
  case write =>
    unfold State.execute
    dsimp only
    split
    · exact s.portsKeepTo_doWrite r _
    · exact s.portsKeepTo_answer r _ _
  case enable => exact s.portsKeepTo_doEnable r
  case disable => exact State.portsKeepTo_answer_of_eq r _ _
  case relock => exact (s.portsKeepTo_relockAll _).trans (State.portsKeepTo_answer _ r _ _)
  case swap => exact State.portsKeepTo_of_eq rfl rfl
  case copy => exact State.portsKeepTo_answer_of_eq r _ _
  case peekEvents => exact s.portsKeepTo_answer r _ _
  case readEvents => exact State.portsKeepTo_answer_of_eq r _ _
  case collect =>
    unfold State.execute
    dsimp only
    split
    · exact (s.portsKeepTo_zeroed _ _ _).trans (State.portsKeepTo_answer _ r _ _)
    · exact s.portsKeepTo_answer r _ _
  case reset => exact s.portsKeepTo_doReset r _

theorem State.portsKeepTo_handle (s : State) (r : Request) : s.PortsKeepTo (s.handle r) := by
  unfold State.handle State.refuseBusy State.decideRequest
  repeat' split
  · exact .refl s
  · exact (s.portsKeepTo_take r).trans (State.portsKeepTo_answer _ r _ _)
  · exact (s.portsKeepTo_take r).trans (State.portsKeepTo_answer _ r _ _)
  · exact (s.portsKeepTo_take r).trans (State.portsKeepTo_execute _ r _)
  · exact .refl s

/-- While the reset line is asserted the agent is handed nothing (R190). -/
theorem State.handle_of_asserted {s : State} (h : s.pins.resetLine = true) (r : Request) : s.handle r = s := by
  simp [State.handle, h]

theorem State.portsKeepTo_receive (s : State) (p : Port) (f : RxFrame) : s.PortsKeepTo (s.receive p f) := by
  refine (s.portsKeepTo_countPort p fun c => c.count (s.judgeFrame p f)).trans ?_
  unfold State.receive
  cases s.judgeFrame p f
  case segment => exact State.portsKeepTo_classify _ _ _ _
  case request => exact State.portsKeepTo_handle _ _
  all_goals exact .refl _

/-- The completion of a transmission keeps what a hand-over keeps: it shortens the queue. -/
theorem LinkPort.keepsTo_complete (l : LinkPort) : l.KeepsTo l.complete := by
  unfold LinkPort.complete
  split
  · exact .refl l
  · rename_i f rest hq
    refine ⟨rfl, fun h => ?_, fun _ h => ?_, fun h => h.congr rfl rfl⟩
    · have h4 : rest.length + 1 ≤ 4 := by simpa [hq] using h
      show rest.length ≤ 4
      omega
    · cases hq.symm.trans h

/-! ### The settings at power-on -/

/-- The station address that a strap value gives is an individual one (R1, R2). -/
theorem strapStation_individual (v : Byte) (p : Port) : (strapStation v p).getLsbD 40 = false := by
  cases p
  · refine (BitVec.getLsbD_append (x := 0x024E4100#32 ++ v) (y := 0x0A#8)).trans ?_
    simp only [BitVec.getLsbD_append]
    rfl
  · refine (BitVec.getLsbD_append (x := 0x024E4100#32 ++ v) (y := 0x0B#8)).trans ?_
    simp only [BitVec.getLsbD_append]
    rfl

/-- It is not all zeros: bit 1 of its last byte, 0A or 0B, is set (R1, R2). -/
theorem strapStation_ne_zero (v : Byte) (p : Port) : strapStation v p ≠ 0 := by
  intro h
  have hbit : (strapStation v p).getLsbD 1 = true := by
    cases p
    · exact (BitVec.getLsbD_append (x := 0x024E4100#32 ++ v) (y := 0x0A#8)).trans (by simp)
    · exact (BitVec.getLsbD_append (x := 0x024E4100#32 ++ v) (y := 0x0B#8)).trans (by simp)
  rw [h] at hbit
  simp at hbit

/-- The settings that POWER_ON gives a port are legal for every strap value (R1). -/
theorem LinkPort.powerOn_settingsSound (v : Byte) (p : Port) (up : Bool) : (LinkPort.powerOn v p up).SettingsSound :=
  ⟨strapStation_individual v p, strapStation_ne_zero v p, defaultEtherType_legal.1, defaultEtherType_legal.2⟩

/-! ### Every step -/

/-- What a command does at the ports: nothing; with the reset line released, what `KeepsTo` names; the change of one
link; or, by POWER_ON and the reset line, the emptying of both queues. -/
inductive PortsEffect (s t : State) : Prop where
  | untouched (ports : ∀ p, t.port p = s.port p) (line : t.pins.resetLine = true → s.pins.resetLine = true)
  | kept (released : s.pins.resetLine = false) (line : t.pins = s.pins) (ports : s.PortsKeepTo t)
  | linked (p : Port) (up : Bool) (line : t.pins = s.pins)
      (ports : t = s.modPort p fun l => { l with linkUp := up, queue := if up then l.queue else [] })
  | emptied (queues : ∀ p, (t.port p).queue = []) (settings : s.PortsSound → t.PortsSound)

theorem State.listens_released {s : State} {p : Port} (h : s.listens p = true) : s.pins.resetLine = false := by
  simp only [State.listens, Bool.and_eq_true, Bool.not_eq_true'] at h
  exact h.1

/-- Every command's effect on the ports is one of these. -/
theorem Effect.portsEffect {s t : State} (h : Effect s t) : PortsEffect s t := by
  have same {u : State} (ha : u.portA = s.portA) (hb : u.portB = s.portB)
      (line : u.pins.resetLine = true → s.pins.resetLine = true) : PortsEffect s u :=
    .untouched (State.port_congr ha hb) line
  cases h with
  | same => exact same rfl rfl id
  | powerOn =>
    refine .emptied (fun p => by cases p <;> rfl) fun _ p => ?_
    cases p <;> exact LinkPort.powerOn_settingsSound _ _ _
  | lineReset =>
    exact .emptied (fun p => by cases p <;> rfl) fun hs p => (hs p).congr (by cases p <;> rfl) (by cases p <;> rfl)
  | lineRelease => exact same rfl rfl (by simp)
  | link p up => exact .linked p up (by simp) rfl
  | cut => exact same rfl rfl id
  | protect => exact same rfl rfl id
  | receive p f h => exact .kept (State.listens_released h) (by simp) (s.portsKeepTo_receive p f)
  | complete p h =>
    exact .kept (State.listens_released h) (by simp) (State.portsKeepTo_modPort (LinkPort.keepsTo_complete _))
  | classify k p g h =>
    have hr : s.pins.resetLine = false := by
      by_contra hr
      simp [State.handed, hr] at h
    exact .kept hr (by simp) (s.portsKeepTo_classify k p g)
  | edge e =>
    cases hr : s.pins.resetLine
    · exact .kept hr (by simp) (s.portsKeepTo_edge e)
    · have he : s.edge e = s := by simp [State.edge, hr]
      exact same (by rw [he]) (by rw [he]) (fun _ => hr)
  | missedEdge h =>
    simp only [State.missedEdgeArises, Bool.and_eq_true, Bool.not_eq_true'] at h
    exact .kept h.1 (by simp) s.portsKeepTo_missedEdge
  | houseFrame => exact .untouched s.port_houseFrame_unmarked (by simp)
  | lapse => exact same rfl rfl id
  | copyTuning => exact same rfl rfl id
  | playout k h =>
    simp only [State.playoutArises, Bool.and_eq_true, Bool.not_eq_true'] at h
    exact .kept h.1 (by simp) (s.portsKeepTo_playoutWork k)
  | servo k hr => exact .kept hr (by simp) (s.portsKeepTo_servoWork k)
  | monitor k h =>
    simp only [State.monitorArises, Bool.and_eq_true, Bool.not_eq_true'] at h
    exact .kept h.1.1 (by simp) (s.portsKeepTo_monitorWork k)
  | matrix h =>
    simp only [State.matrixArises, Bool.and_eq_true, Bool.not_eq_true'] at h
    exact .kept h.1.1 (by simp) s.portsKeepTo_matrixWork
  | bus => exact same rfl rfl id
  | request r =>
    cases hr : s.pins.resetLine
    · exact .kept hr (by simp) (s.portsKeepTo_handle r)
    · rw [State.handle_of_asserted hr r]
      exact same rfl rfl id

/-- A link that changes its state keeps a sound queue: going DOWN empties it (R3). -/
theorem LinkPort.QueueSound.linkChange {l : LinkPort} {asserted : Bool} (h : l.QueueSound asserted) (up : Bool) :
    LinkPort.QueueSound { l with linkUp := up, queue := if up then l.queue else [] } asserted := by
  cases up
  · exact ⟨Nat.zero_le _, fun _ => rfl, fun _ => rfl⟩
  · exact ⟨h.1, by simp, h.2.2⟩

theorem PortsEffect.queuesSound {s t : State} (h : PortsEffect s t) (hs : s.QueuesSound) : t.QueuesSound := by
  intro p
  cases h with
  | untouched ports line =>
    obtain ⟨hb, hd, ha⟩ := hs p
    rw [← ports p] at hb hd ha
    exact ⟨hb, hd, fun h => ha (line h)⟩
  | kept released line ports =>
    have hq := hs p
    rw [released] at hq
    rw [line, released]
    exact (ports p).queueSound hq
  | linked q up line ports =>
    rw [line]
    subst ports
    exact State.forall_port_modPort (P := fun l => l.QueueSound s.pins.resetLine) q hs (fun h => h.linkChange up) p
  | emptied queues => exact ⟨by simp [queues p], fun _ => queues p, fun _ => queues p⟩

theorem PortsEffect.portsSound {s t : State} (h : PortsEffect s t) (hs : s.PortsSound) : t.PortsSound := by
  intro p
  cases h with
  | untouched ports => exact ports p ▸ hs p
  | kept _ _ ports => exact (ports p).settings (hs p)
  | linked q up _ ports =>
    subst ports
    exact State.forall_port_modPort (P := LinkPort.SettingsSound) q hs
      (fun h => h.congr rfl rfl) p
  | emptied _ settings => exact settings hs p

@[simp] theorem State.port_pending (s : State) (q : List Instr) (p : Port) :
    State.port { s with pending := q } p = s.port p := by cases p <;> rfl

/-- What every effect of a command keeps, and does not read the queue of commands, every step keeps. -/
theorem step_keeps {P : State → Prop} (queue : ∀ s q, P s → P { s with pending := q })
    (effect : ∀ s t, Effect s t → P s → P t) {s t : State} (h : step s = .next t) (hs : P s) : P t := by
  rcases step_effect h with ⟨-, rfl⟩ | ⟨c, rest, -, he⟩
  · exact hs
  · exact effect _ _ he (queue s rest hs)

/-- Settles O5: every effect of a command on the ports keeps both invariants. -/
theorem stepKeepsTransmitQueuesBounded : Obligations.StepKeepsTransmitQueuesBounded :=
  ⟨fun _ _ hs h => step_keeps (P := State.QueuesSound) (fun s q hs p => s.port_pending q p ▸ hs p)
      (fun _ _ he => he.portsEffect.queuesSound) h hs,
    fun _ _ hs h => step_keeps (P := State.PortsSound) (fun s q hs p => s.port_pending q p ▸ hs p)
      (fun _ _ he => he.portsEffect.portsSound) h hs⟩

end Sys2Proof.Machine
end

section
/-! Bytes: what a field reads of what a sender lays out, most significant byte first (spec/00 section 6.3, spec/12). -/

namespace Sys2Proof.Machine

/-! ### Runs of bytes as numbers -/

@[simp] theorem length_toBytes (size v : Nat) : (toBytes size v).length = size := by
  induction size with
  | zero => rfl
  | succ size ih => simp [toBytes, ih]

theorem ofBytes_append (a b : List Byte) : ofBytes (a ++ b) = ofBytes a * 256 ^ b.length + ofBytes b := by
  induction b using List.reverseRecOn with
  | nil => simp [ofBytes]
  | append_singleton b x ih =>
    simp only [ofBytes, ← List.append_assoc, List.foldl_append, List.foldl_cons, List.foldl_nil, List.length_append,
      List.length_singleton, pow_succ] at ih ⊢
    rw [ih]
    ring

theorem ofBytes_singleton (x : Byte) : ofBytes [x] = x.toNat := by simp [ofBytes]

theorem ofBytes_lt (b : List Byte) : ofBytes b < 256 ^ b.length := by
  induction b using List.reverseRecOn with
  | nil => simp [ofBytes]
  | append_singleton b x ih =>
    have hx := x.isLt
    rw [ofBytes_append, ofBytes_singleton, List.length_append, List.length_singleton, pow_add, pow_one]
    omega

/-- The bytes of a number spell its value, less what they are too few to hold. -/
theorem ofBytes_toBytes (size v : Nat) : ofBytes (toBytes size v) = v % 256 ^ size := by
  induction size with
  | zero => simp [toBytes, ofBytes, Nat.mod_one]
  | succ size ih =>
    have h : toBytes (size + 1) v = [BitVec.ofNat 8 (v / 256 ^ size)] ++ toBytes size v := rfl
    have hm : v % 256 ^ (size + 1) = v % 256 ^ size + 256 ^ size * (v / 256 ^ size % 256) := by rw [pow_succ, Nat.mod_mul]
    rw [h, ofBytes_append, ofBytes_singleton, length_toBytes, ih, BitVec.toNat_ofNat, hm]
    ring

/-! ### Fields -/

theorem field_append_right {a : List Byte} (b : List Byte) {off : Nat} (size : Nat) (h : a.length ≤ off) :
    field (a ++ b) off size = field b (off - a.length) size := by
  simp only [field, List.drop_append, List.drop_eq_nil_of_le h, List.nil_append]

theorem field_append_left (a b : List Byte) (size : Nat) (h : size ≤ a.length) :
    field (a ++ b) 0 size = field a 0 size := by
  simp [field, List.take_append_of_le_length h]

@[simp] theorem field_cons_succ (x : Byte) (b : List Byte) (off size : Nat) :
    field (x :: b) (off + 1) size = field b off size := rfl

@[simp] theorem field_cons_zero (x : Byte) (b : List Byte) : field (x :: b) 0 1 = x.toNat := by
  simp [field, ofBytes_singleton]

/-- A field that holds the bytes of a number reads the number, where they are enough to hold it. -/
theorem field_toBytes {size v : Nat} (b : List Byte) (h : v < 256 ^ size) : field (toBytes size v ++ b) 0 size = v := by
  rw [field_append_left _ _ _ (length_toBytes size v).ge]
  rw [field, List.drop_zero, List.take_of_length_le (length_toBytes size v).le, ofBytes_toBytes, Nat.mod_eq_of_lt h]

/-- A field wide enough for a word reads the word back. -/
theorem field_word {w : Nat} (size : Nat) (x : BitVec w) (b : List Byte) (h : w ≤ 8 * size := by decide) :
    field (toBytes size x.toNat ++ b) 0 size = x.toNat := by
  refine field_toBytes b (x.isLt.trans_le ?_)
  calc 2 ^ w ≤ 2 ^ (8 * size) := Nat.pow_le_pow_right (by decide) h
    _ = 256 ^ size := by rw [pow_mul]; rfl

theorem field_lt (b : List Byte) (off size : Nat) : field b off size < 256 ^ size :=
  (ofBytes_lt _).trans_le (Nat.pow_le_pow_right (by decide) (List.length_take_le _ _))

/-- A field is its first bytes, and then the rest. -/
theorem field_add {b : List Byte} {off m n : Nat} (h : off + m + n ≤ b.length) :
    field b off (m + n) = field b off m * 256 ^ n + field b (off + m) n := by
  have hd : (b.drop off).take (m + n) = (b.drop off).take m ++ (b.drop (off + m)).take n := by
    rw [List.take_add, List.drop_drop]
  have hn : ((b.drop (off + m)).take n).length = n := by
    rw [List.length_take, List.length_drop]
    omega
  simp only [field, hd, ofBytes_append, hn]

/-- The first bytes of a run, past those before it. -/
theorem drop_of_length {α : Type} {a : List α} (b : List α) {n : Nat} (h : a.length = n) : (a ++ b).drop n = b := by
  rw [← h, List.drop_left]

/-! ### Samples -/

/-- The samples laid out three bytes each are read back, whatever follows them. -/
theorem readSamples_flatMap (xs : List Sample) (b : List Byte) :
    readSamples xs.length (xs.flatMap (fun v => toBytes 3 v.toNat) ++ b) = xs := by
  induction xs with
  | nil => rfl
  | cons x xs ih =>
    rw [List.flatMap_cons, List.length_cons, List.append_assoc, readSamples, field_word 3 x,
      drop_of_length _ (length_toBytes 3 x.toNat), ih]
    simp

theorem length_flatMap_samples (xs : List Sample) :
    (xs.flatMap fun v => toBytes 3 v.toNat).length = xs.length * 3 := by
  induction xs with
  | nil => rfl
  | cons x xs ih =>
    rw [List.flatMap_cons, List.length_append, ih, length_toBytes, List.length_cons]
    ring

/-! ### The parts of a record that are one byte -/

theorem flagByte_eq (b : Bool) : flagByte b = [flagOf b] := rfl

theorem alarmSet_eq (a : AlarmFlags) : a.toByte = alarmSet a := by
  rcases a with ⟨_ | _, _ | _, _ | _, _ | _, _ | _⟩ <;> rfl

theorem AlarmFlags.ofByte_toByte (a : AlarmFlags) : AlarmFlags.ofByte a.toByte = a := by
  rcases a with ⟨_ | _, _ | _, _ | _, _ | _, _ | _⟩ <;> rfl

theorem readFlag_flagOf (b : Bool) : readFlag (flagOf b).toNat = some b := by cases b <;> rfl

theorem readFlag_eq_none_iff (v : Nat) : readFlag v = none ↔ 1 < v := by
  unfold readFlag
  split
  · simp
  · simp
  · rename_i h0 h1
    have h0 : v ≠ 0 := h0
    have h1 : v ≠ 1 := h1
    simp only [true_iff]
    omega

end Sys2Proof.Machine
end

section
/-! The management agent: the codes of requests and objects, and the request that is taken and passes its checks
(R177 to R182, sections 11.4 and 12.2). -/

namespace Sys2Proof.Machine

/-! ### Codes (section 12.2) -/

/-- The request code of a request. -/
def RequestKind.number : RequestKind → Nat
  | .read => 1
  | .write => 2
  | .enable => 3
  | .disable => 4
  | .relock => 5
  | .swap => 6
  | .copy => 7
  | .peekEvents => 8
  | .readEvents => 9
  | .collect => 10
  | .reset => 11

/-- The object code of an object. -/
def ObjectKind.number : ObjectKind → Nat
  | .stream => 1
  | .streamStatus => 2
  | .routeActive => 3
  | .routeStandby => 4
  | .cover => 5
  | .pattern => 6
  | .device => 7
  | .portCounters => 8
  | .pathCounters => 9
  | .monitors => 10
  | .timebase => 11

theorem toNat_of_requestKind {code : Byte} {k : RequestKind} (h : requestKind code = some k) : code.toNat = k.number := by
  unfold requestKind at h
  split at h <;> cases h <;> assumption

/-- The codes of the requests are 1 to 11. -/
theorem requestKind_eq_none_iff (code : Byte) : requestKind code = none ↔ ¬ (1 ≤ code.toNat ∧ code.toNat ≤ 11) := by
  constructor
  · intro h hc
    obtain ⟨h1, h11⟩ := hc
    unfold requestKind at h
    interval_cases code.toNat <;> cases h
  · intro h
    cases hk : requestKind code with
    | none => rfl
    | some k =>
      rw [toNat_of_requestKind hk] at h
      cases k <;> exact absurd (by decide) h

theorem toNat_of_objectKind {object : Byte} {o : ObjectKind} (h : objectKind object = some o) :
    object.toNat = o.number := by
  unfold objectKind at h
  split at h <;> cases h <;> assumption

/-- The codes of the objects are 1 to 11. -/
theorem objectKind_eq_none {object : Byte} (h : objectKind object = none) : ¬ (1 ≤ object.toNat ∧ object.toNat ≤ 11) := by
  rintro ⟨h1, h11⟩
  unfold objectKind at h
  interval_cases object.toNat <;> cases h

/-- The table of section 11.4: which request applies to which object, by their codes. -/
abbrev Applies (code object : Nat) : Prop :=
  (code = 1 ∧ 1 ≤ object ∧ object ≤ 11)
    ∨ (code = 2 ∧ (object = 1 ∨ object = 4 ∨ object = 5 ∨ object = 6 ∨ object = 7))
    ∨ ((code = 3 ∨ code = 4 ∨ code = 5) ∧ object = 1) ∨ (code = 10 ∧ (object = 8 ∨ object = 9 ∨ object = 10))
    ∨ code = 6 ∨ code = 7 ∨ code = 8 ∨ code = 9 ∨ code = 11

/-- The model's table of requests and objects is that of section 11.4, entry by entry. -/
theorem RequestKind.applies_iff (k : RequestKind) (object : Byte) :
    k.applies object = true ↔ Applies k.number object.toNat := by
  cases ho : objectKind object with
  | none =>
    have hn := objectKind_eq_none ho
    cases k <;> simp [RequestKind.applies, ho, Applies, RequestKind.number] <;> omega
  | some o =>
    have hn := toNat_of_objectKind ho
    simp only [RequestKind.applies, ho, hn]
    cases k <;> cases o <;> decide

/-- A known request with an object it does not apply to. -/
theorem misapplied_iff (code object : Byte) :
    misapplied code object = true ↔ (1 ≤ code.toNat ∧ code.toNat ≤ 11) ∧ ¬ Applies code.toNat object.toNat := by
  unfold misapplied
  split
  · rename_i hk
    have := (requestKind_eq_none_iff code).mp hk
    simp [this]
  · rename_i k hk
    have hn : 1 ≤ code.toNat ∧ code.toNat ≤ 11 := by
      by_contra h
      rw [(requestKind_eq_none_iff code).mpr h] at hk
      cases hk
    have ha := k.applies_iff object
    rw [← toNat_of_requestKind hk] at ha
    simp [hn, ← ha]

/-! ### The row of the opcode table that a request is -/

/-- The row of a request hands that request to the agent. -/
theorem exec_command (r : Request) (s : State) : exec r.command s = .next (s.handle r) := by
  obtain ⟨c, o, m⟩ := r
  have hm := misapplied_iff c o
  have hu := requestKind_eq_none_iff c
  have hc : BitVec.ofNat 8 c.toNat = c := by simp
  have ho : BitVec.ofNat 8 o.toNat = o := by simp
  unfold Request.command
  dsimp only
  generalize c.toNat = cn at hc hm hu
  generalize o.toNat = on at ho hm
  split
  case h_27 =>
    subst hc
    split <;> simp_all [exec, execReset, execResetClearTables]
  case h_28 =>
    split
    · rename_i hk
      have hn : ¬ Applies cn on := by
        grind
      simp [exec, execRequestNotApplyingToObject, hm.mpr ⟨hk, hn⟩]
    · rename_i hk
      simp [exec, execUnknownRequest, hu.mpr hk]
  all_goals subst hc ho; rfl

/-! ### The request that is taken -/

/-- A request that is served with none in progress is taken, and decided (R177, R178). -/
theorem State.Takes.handle {s : State} {r : Request} (h : s.Takes r) : s.handle r = (s.take r).decideRequest r := by
  obtain ⟨released, idle, served⟩ := h
  have hs : s.serves r = true := by
    unfold State.serves Request.general
    rcases served with ⟨hu, h2, h7⟩ | ⟨hu, hd⟩
    · rw [if_pos (by simpa using hu)]
      unfold requestKind
      interval_cases r.code.toNat <;> rfl
    · rw [if_neg (by simpa using hu)]
      simpa using hd
  simp [State.handle, released, idle, hs]

/-- A request that is taken and is none of those that the general address is served for is an addressed one (R178). -/
theorem State.Takes.addressed {s : State} {r : Request} (h : s.Takes r) (hc : r.code.toNat = 1 ∨ 8 ≤ r.code.toNat) :
    r.general = false := by
  rcases h.served with ⟨-, h2, h7⟩ | ⟨hu, -⟩
  · omega
  · simpa [Request.general] using hu

/-- A request that passes the checks 2 to 5 is executed (R177). -/
theorem State.decideRequest_executes {s : State} {r : Request} {k : RequestKind} (hk : requestKind r.code = some k)
    (hp : s.pins.protect = false ∨ k.guarded = false) (ha : k.applies r.object = true) (hi : r.indexPasses k = true)
    (hd : r.dataPasses k = true) : s.decideRequest r = s.execute r k := by
  have hj : s.judge r = .inr k := by
    rcases hp with hp | hp <;> simp [State.judge, hk, hp, ha, hi, hd]
  rw [State.decideRequest, hj]

/-- An index and a count that name records of an object pass check 4 of R177. -/
theorem Names.indexOk {m : Envelope} {o : ObjectKind} (h : Names m o.range.1 o.range.2) :
    indexOk o m.index.toNat m.count.toNat = true := by
  obtain ⟨least, most, from_, upTo⟩ := h
  simp [Machine.indexOk, least, most, from_, upTo]

end Sys2Proof.Machine
end

section
/-! The DEVICE record read back (R2, R187, R192, section 12.3). -/

namespace Sys2Proof.Machine

/-- A port whose settings are sound has a station address and a transport type that a WRITE of DEVICE takes. -/
theorem LinkPort.SettingsSound.ok {l : LinkPort} (h : l.SettingsSound) :
    stationOk l.station = true ∧ etherTypeOk l.etherType = true :=
  ⟨(stationOk_iff _).mpr ⟨h.individual, h.station⟩, (etherTypeOk_iff _).mpr ⟨h.etherType, h.untagged⟩⟩

theorem State.length_deviceRecord (s : State) : s.deviceRecord.length = 28 := by
  simp [State.deviceRecord]

/-- What the DEVICE record carries is read field by field; a part with no unit address sends 0 (R187). -/
theorem readDeviceWrite_deviceRecord (s : State) {u : Byte} (hu : s.dev.unit = some u) (h0 : u ≠ 0) (h255 : u ≠ 255)
    (hp : s.PortsSound) :
    readDeviceWrite s.deviceRecord
      = some { unit := u, stationA := s.portA.station, stationB := s.portB.station,
               etherTypeA := s.portA.etherType, etherTypeB := s.portB.etherType, rephase := s.dev.rephase,
               patternHold := s.dev.patternHold, muteMask := s.dev.muteMask, eventEnable := s.dev.eventEnable,
               alertEnable := s.dev.alertEnable } := by
  obtain ⟨hA, hA'⟩ := (hp .a).ok
  obtain ⟨hB, hB'⟩ := (hp .b).ok
  simp only [State.port_a, State.port_b] at hA hA' hB hB'
  simp [readDeviceWrite, State.deviceRecord, hu, List.append_assoc, field_append_right, field_word,
    readFlag_flagOf, ← alarmSet_eq, AlarmFlags.ofByte_toByte, hA, hA', hB, hB']
  exact ⟨h0, h255⟩

/-- Settles O13: the settings the part holds are legal, so the record passes every test of a WRITE. -/
theorem deviceRecordReadsBack : Obligations.DeviceRecordReadsBack := fun s _ hu h0 h255 hp =>
  ⟨s.length_deviceRecord, readDeviceWrite_deviceRecord s hu h0 h255 fun p =>
    ⟨(hp p).1, (hp p).2.1, (hp p).2.2.1, (hp p).2.2.2⟩⟩

end Sys2Proof.Machine
end

section
/-! Received frames: how a port judges one, and what it makes of the frames a sender forms (R3 to R10, section 12.1). -/

namespace Sys2Proof.Machine

/-! ### The tests of section 1.2 -/

/-- The frame passes R4: a good frame check and a length of 64 to 1536. -/
def RxFrame.Passes (f : RxFrame) : Prop := f.fcsOk = true ∧ 64 ≤ f.bytes.length ∧ f.bytes.length ≤ 1536

/-- The parts of a frame say that it is meant for the port: its station address or a group address, its transport type, and
version 1 (R5, R6). -/
def LinkPort.Meant (l : LinkPort) (q : FrameParts) : Prop :=
  (q.dest = l.station ∨ q.dest.getLsbD 40 = true) ∧ q.etherType = l.etherType ∧ field q.transport 1 1 = 1

theorem execFrameReception_of_listens {s : State} {p : Port} (h : s.listens p = true) (f : RxFrame) :
    exec (.frameReception p f) s = .next (s.receive p f) := by
  simp [exec, execFrameReception, h]

theorem execFrameReception_deaf {s : State} {p : Port} (h : s.listens p = false) (f : RxFrame) :
    exec (.frameReception p f) s = .next s := by
  simp [exec, execFrameReception, h]

theorem State.judgeFrame_of_not_passes (s : State) (p : Port) {f : RxFrame} (h : ¬ RxFrame.Passes f) :
    s.judgeFrame p f = .badFcs := by
  rw [State.judgeFrame, if_neg]
  simpa [RxFrame.Passes, RxFrame.lengthOk] using h

theorem State.judgeFrame_of_passes (s : State) (p : Port) {f : RxFrame} (h : RxFrame.Passes f) :
    s.judgeFrame p f =
      if (s.port p).accepts (splitFrame f.bytes) then s.judgeKind p (splitFrame f.bytes) else .foreign := by
  rw [State.judgeFrame, if_pos]
  simpa [RxFrame.Passes, RxFrame.lengthOk] using h

theorem LinkPort.accepts_iff (l : LinkPort) (q : FrameParts) :
    l.accepts q = true ↔ (q.dest = l.station ∨ q.dest.getLsbD 40 = true) ∧ q.etherType = l.etherType := by
  simp [LinkPort.accepts, isGroup]

/-- A frame that is meant for the port and of kind 1 is judged as a segment (R6, R7). -/
theorem State.judgeFrame_kind1 {s : State} {p : Port} {f : RxFrame} (h : RxFrame.Passes f)
    (hm : (s.port p).Meant (splitFrame f.bytes)) (hk : field (splitFrame f.bytes).transport 0 1 = 1) :
    s.judgeFrame p f = s.judgeSegment p (splitFrame f.bytes).transport := by
  obtain ⟨hd, he, hv⟩ := hm
  rw [s.judgeFrame_of_passes p h, if_pos ((LinkPort.accepts_iff _ _).mpr ⟨hd, he⟩), State.judgeKind, if_pos hv, hk]
  rfl

/-- A frame that is meant for the port and of kind 2 is judged as a request (R6, R10). -/
theorem State.judgeFrame_kind2 {s : State} {p : Port} {f : RxFrame} (h : RxFrame.Passes f)
    (hm : (s.port p).Meant (splitFrame f.bytes)) (hk : field (splitFrame f.bytes).transport 0 1 = 2) :
    s.judgeFrame p f = if headerFits (splitFrame f.bytes).transport then .request (readRequest p (splitFrame f.bytes))
      else .malformed := by
  obtain ⟨hd, he, hv⟩ := hm
  rw [s.judgeFrame_of_passes p h, if_pos ((LinkPort.accepts_iff _ _).mpr ⟨hd, he⟩), State.judgeKind, if_pos hv, hk]
  rfl

/-- A frame that is not meant for the port, or of another kind than 1 and 2, is foreign (R5, R6). -/
theorem State.judgeFrame_foreign {s : State} {p : Port} {f : RxFrame} (h : RxFrame.Passes f)
    (hn : ¬ ((s.port p).Meant (splitFrame f.bytes)
      ∧ (field (splitFrame f.bytes).transport 0 1 = 1 ∨ field (splitFrame f.bytes).transport 0 1 = 2))) :
    s.judgeFrame p f = .foreign := by
  rw [s.judgeFrame_of_passes p h]
  split
  · rename_i ha
    obtain ⟨hd, he⟩ := (LinkPort.accepts_iff _ _).mp ha
    unfold State.judgeKind
    split
    · rename_i hv
      split
      · rename_i hk
        exact absurd ⟨⟨hd, he, hv⟩, .inl hk⟩ hn
      · rename_i hk
        exact absurd ⟨⟨hd, he, hv⟩, .inr hk⟩ hn
      · rfl
    · rfl
  · rfl

/-- A segment's own fields pass R7. -/
def Segment.FieldsPass (g : Segment) : Prop :=
  1 ≤ g.stream ∧ g.stream ≤ 64 ∧ 1 ≤ g.channels ∧ g.channels ≤ 16
    ∧ (g.frames = 6 ∨ g.frames = 12 ∨ g.frames = 24 ∨ g.frames = 48) ∧ g.channels * g.frames ≤ 480

theorem fieldsOk_iff (g : Segment) : g.fieldsOk = true ↔ Segment.FieldsPass g := by
  simp only [Segment.fieldsOk, Segment.FieldsPass, Bool.and_eq_true, Bool.or_eq_true, decide_eq_true_eq, and_assoc,
    or_assoc]

theorem segmentFits_iff (t : List Byte) :
    segmentFits t = true ↔ Segment.FieldsPass (readSegment t)
      ∧ 11 + (readSegment t).channels * (readSegment t).frames * 3 ≤ t.length := by
  simp [segmentFits, fieldsOk_iff]

/-- The place that a stream number 1 to 64 names (R17). -/
theorem readStreamId_eq_some_iff (v : Nat) (k : StreamId) : readStreamId v = some k ↔ v = k.val + 1 := by
  have hk := k.isLt
  unfold readStreamId readFin
  split
  · simp; omega
  · split
    · simp [Fin.ext_iff]; omega
    · simp; omega

/-- The stream that a segment names, enabled and admitting the port (R8). -/
theorem State.admitted_eq_some {s : State} {p : Port} {g : Segment} {k : StreamId} (hn : g.stream = k.val + 1)
    (he : (s.stream k).enabled = true) (hi : (s.stream k).record.shape.admission.includes p = true) :
    s.admitted p g = some k := by
  simp [State.admitted, (readStreamId_eq_some_iff _ k).mpr hn, he, hi]

theorem State.admitted_eq_none {s : State} {p : Port} {g : Segment}
    (h : ∀ k : StreamId, g.stream = k.val + 1 →
      ¬ ((s.stream k).enabled = true ∧ (s.stream k).record.shape.admission.includes p = true)) :
    s.admitted p g = none := by
  unfold State.admitted
  split
  · rfl
  · rename_i k hk
    have := h k ((readStreamId_eq_some_iff _ _).mp hk)
    simp_all

/-! ### Ethernet frames (spec/12, opening) -/

/-- A port reads of a frame the parts that its sender put into it. An untagged frame of EtherType 0x8100 would be read as a
tagged one. -/
theorem splitFrame_ethernetFrame (dest source : Mac) {vlan : Option VlanTag} {e : EtherType} (t : List Byte)
    {fcs : List Byte} (hf : fcs.length = 4) (hv : vlan = none → e ≠ 0x8100) :
    splitFrame (ethernetFrame dest source vlan e t fcs) = ⟨dest, source, vlan, e, t⟩ := by
  have body (x : List Byte) : (x ++ fcs).take ((x ++ fcs).length - 4) = x := by
    rw [List.length_append, hf, Nat.add_sub_cancel, List.take_left]
  unfold splitFrame ethernetFrame
  rw [body]
  cases vlan with
  | none =>
    have he : e.toNat ≠ 0x8100 := fun h => hv rfl (BitVec.eq_of_toNat_eq h)
    have ht : (toBytes 6 dest.toNat ++ toBytes 6 source.toNat ++ [] ++ toBytes 2 e.toNat ++ t).drop 14 = t :=
      drop_of_length t (by simp)
    dsimp only
    rw [ht]
    simp [List.append_assoc, field_append_right, field_word, he]
  | some v =>
    have hp := v.priority.isLt
    have hi := v.vid.isLt
    have ht (x : List Byte) (hx : x.length = 4) :
        (toBytes 6 dest.toNat ++ toBytes 6 source.toNat ++ x ++ toBytes 2 e.toNat ++ t).drop 18 = t :=
      drop_of_length t (by simp [hx])
    have hvid : BitVec.ofNat 12 (v.priority.toNat * 8192 + v.vid.toNat) = v.vid := by
      apply BitVec.eq_of_toNat_eq
      rw [BitVec.toNat_ofNat]
      omega
    have hprio : BitVec.ofNat 3 ((v.priority.toNat * 8192 + v.vid.toNat) / 8192) = v.priority := by
      apply BitVec.eq_of_toNat_eq
      rw [BitVec.toNat_ofNat]
      omega
    have htci (b : List Byte) : field (toBytes 2 (v.priority.toNat * 8192 + v.vid.toNat) ++ b) 0 2
        = v.priority.toNat * 8192 + v.vid.toNat := field_toBytes b (by omega)
    have htpid (b : List Byte) : field (0x81#8 :: 0x00#8 :: b) 0 2 = 0x8100 := rfl
    dsimp only
    rw [ht _ (by simp)]
    simp [List.append_assoc, field_append_right, field_word, htci, hvid, hprio, htpid]

/-! ### Requests (R10) -/

/-- The port reads of a request's bytes the request that they carry, no bit of an operand lost. -/
theorem readRequest_transport (r : Request) (reserved : Byte) (dest : Mac) (e : EtherType) :
    readRequest r.env.port ⟨dest, r.env.source, r.env.vlan, e, r.transport reserved⟩ = r := by
  have hd : (r.transport reserved).drop 12 = r.env.data := by
    unfold Request.transport
    exact drop_of_length r.env.data (by simp)
  simp only [readRequest, hd]
  simp [Request.transport, field_word]

end Sys2Proof.Machine
end

section
/-! Frames that carry a request or a segment, and frames that fail a test (R3 to R10, section 1.2). -/

namespace Sys2Proof.Machine

/-! ### Frames that are handed over -/

/-- A frame formed for a port, under its transport type and with version 1, is meant for it. -/
theorem LinkPort.meant_of_formed {l : LinkPort} {dest source : Mac} {vlan : Option VlanTag} {t : List Byte}
    (hd : dest = l.station ∨ dest.getLsbD 40 = true) (hv : field t 1 1 = 1) :
    l.Meant ⟨dest, source, vlan, l.etherType, t⟩ := ⟨hd, rfl, hv⟩

theorem State.receive_request {s : State} {p : Port} {f : RxFrame} {r : Request} (h : s.judgeFrame p f = .request r) :
    s.receive p f
      = (s.countPort p fun c => { c with framesReceived := Counter.inc c.framesReceived }).handle r := by
  simp only [State.receive, h, PortCounters.count, State.handOver]

theorem State.receive_segment {s : State} {p : Port} {f : RxFrame} {k : StreamId} {g : Segment}
    (h : s.judgeFrame p f = .segment k g) :
    s.receive p f
      = (s.countPort p fun c => { c with framesReceived := Counter.inc c.framesReceived }).classify k p g := by
  simp only [State.receive, h, PortCounters.count, State.handOver]

/-- Settles O14: the port reads the request back, and the row of a request hands that request to the agent. -/
theorem requestFrameRunsItsCommand : Obligations.RequestFrameRunsItsCommand := by
  intro s p f dest r reserved fcs hl hport hd hv hfcs hok hmin hmax hbytes
  have hsplit := hbytes ▸ splitFrame_ethernetFrame dest r.env.source (r.transport reserved) hfcs hv
  have hj : s.judgeFrame p f = .request r := by
    rw [State.judgeFrame_kind2 ⟨hok, hmin, hmax⟩ (hsplit ▸ LinkPort.meant_of_formed hd rfl) (hsplit ▸ rfl), hsplit,
      ← hport, readRequest_transport, if_pos]
    simp [headerFits, Request.transport]
    omega
  rw [execFrameReception_of_listens hl, State.receive_request hj, exec_command]

/-- The port reads of a segment's bytes the segment that they carry, whatever pads them (R7). -/
theorem readSegment_segmentTransport {g : Segment} (hf : Segment.FieldsPass g)
    (hn : g.samples.length = g.channels * g.frames) (padding : List Byte) :
    readSegment (segmentTransport g padding) = g := by
  obtain ⟨stream, channels, frames, seq, origin, samples⟩ := g
  obtain ⟨-, h64, -, h16, h48, -⟩ := hf
  dsimp only at h64 h16 h48 hn
  have hs : stream % 256 = stream := Nat.mod_eq_of_lt (by omega)
  have hc : channels % 256 = channels := Nat.mod_eq_of_lt (by omega)
  have hfr : frames % 256 = frames := Nat.mod_eq_of_lt (by omega)
  have hd : (segmentTransport ⟨stream, channels, frames, seq, origin, samples⟩ padding).drop 11
      = samples.flatMap (fun v => toBytes 3 v.toNat) ++ padding := by
    unfold segmentTransport
    rw [List.append_assoc]
    exact drop_of_length _ (by simp)
  simp only [readSegment, hd]
  simp [segmentTransport, field_append_right, field_word, hs, hc, hfr, ← hn, readSamples_flatMap]

/-- A segment's bytes hold its header and its payload (R7). -/
theorem segmentFits_segmentTransport {g : Segment} (hf : Segment.FieldsPass g)
    (hn : g.samples.length = g.channels * g.frames) (padding : List Byte) :
    segmentFits (segmentTransport g padding) = true := by
  rw [segmentFits_iff, readSegment_segmentTransport hf hn]
  refine ⟨hf, ?_⟩
  simp only [segmentTransport, List.length_append, length_flatMap_samples, hn, length_toBytes]
  simp only [List.length_cons, List.length_nil]
  omega

theorem wellFormed_iff (g : Segment) :
    g.wellFormed = true ↔ Segment.FieldsPass g ∧ g.samples.length = g.channels * g.frames := by
  simp [Segment.wellFormed, fieldsOk_iff]

/-- A segment that a port hands over is classified (R9, R28). -/
theorem State.HandsOver.exec_audioSegment {s : State} {p : Port} {g : Segment} {k : StreamId} (h : s.HandsOver p g k) :
    exec (.audioSegment p g) s = .next (s.classify k p g) := by
  have hh : s.handed p g = some k := by
    simp [State.handed, h.released, h.wellFormed, State.admitted_eq_some h.names h.enabled h.included]
  simp [exec, execAudioSegment, hh]

/-- A count at a port bears on no hand-over. -/
theorem State.HandsOver.countPort {s : State} {p : Port} {g : Segment} {k : StreamId} (h : s.HandsOver p g k) (q : Port)
    (f : PortCounters → PortCounters) : (s.countPort q f).HandsOver p g k :=
  ⟨by simpa using h.released, h.wellFormed, h.names, by simpa using h.enabled, by simpa using h.included⟩

/-- Settles O15: the port reads the segment back, finds it whole and admitted, and hands it over. -/
theorem segmentFrameReachesTheClassifier : Obligations.SegmentFrameReachesTheClassifier := by
  intro s p f dest source vlan g k padding fcs hl hg hd hv hfcs hok hmin hmax hbytes
  have hsplit := hbytes ▸ splitFrame_ethernetFrame dest source (segmentTransport g padding) hfcs hv
  obtain ⟨hf, hn⟩ := (wellFormed_iff g).mp hg.wellFormed
  have hj : s.judgeFrame p f = .segment k g := by
    rw [State.judgeFrame_kind1 ⟨hok, hmin, hmax⟩ (hsplit ▸ LinkPort.meant_of_formed hd rfl) (hsplit ▸ rfl), hsplit,
      State.judgeSegment, if_pos (segmentFits_segmentTransport hf hn padding), readSegment_segmentTransport hf hn,
      State.admitted_eq_some hg.names hg.enabled hg.included]
  rw [execFrameReception_of_listens hl, State.receive_segment hj, (hg.countPort p _).exec_audioSegment]

/-! ### Frames that fail a test -/

/-- Settles O16: each test that fails gives its reception, which counts and hands nothing over. -/
theorem frameThatFailsATestIsCountedAndDropped : Obligations.FrameThatFailsATestIsCountedAndDropped := by
  intro s p f
  refine ⟨fun hl => execFrameReception_deaf hl f, fun hl => ?_⟩
  intro q kind g passes meant fields whole
  rw [execFrameReception_of_listens hl]
  have drops {x : Reception} (hj : s.judgeFrame p f = x) :
      s.receive p f = (s.countPort p fun c => c.count x).handOver p x := by
    rw [State.receive, hj]
  refine ⟨fun hp => ?_, fun hp hn => ?_, fun hp hm hk hn => ?_, fun hp hm hk hf hw ha => ?_⟩
  · rw [drops (s.judgeFrame_of_not_passes p hp)]
    rfl
  · rw [drops (State.judgeFrame_foreign hp hn)]
    rfl
  · have hj : s.judgeFrame p f = .malformed := by
      rw [State.judgeFrame_kind1 hp hm hk, State.judgeSegment, if_neg (fun h => hn ((segmentFits_iff _).mp h))]
    rw [drops hj]
    rfl
  · have hj : s.judgeFrame p f = .unadmitted := by
      rw [State.judgeFrame_kind1 hp hm hk, State.judgeSegment, if_pos ((segmentFits_iff _).mpr ⟨hf, hw⟩),
        State.admitted_eq_none ha]
    rw [drops hj]
    rfl

end Sys2Proof.Machine
end

section
/-! The ports' queues, the lines and links, power-on and the reset line, and the taking and answering of a request
(R1, R3, R10 to R12, R15, R16, R131, R181, R190, R191). -/

namespace Sys2Proof.Machine

/-! ### The state at power-on -/

@[simp] theorem State.stream_powerOn (v : Byte) (linkA linkB : Bool) (pins : Pins) (n : Nat) (q : List Instr)
    (k : StreamId) : (State.powerOn v linkA linkB pins n q).stream k = Stream.powerOn := by
  simp [State.stream, State.powerOn]

@[simp] theorem State.stream_reset (k : StreamId) : State.reset.stream k = Stream.powerOn := State.stream_powerOn ..

theorem State.reset_queuesSound : State.reset.QueuesSound := by
  intro p
  cases p <;> exact ⟨Nat.zero_le _, fun _ => rfl, fun _ => rfl⟩

theorem State.reset_portsSound : State.reset.PortsSound := by
  intro p
  cases p <;> exact LinkPort.powerOn_settingsSound 7 _ _

theorem State.reset_timebaseSound : State.reset.TimebaseSound := by
  constructor <;> decide

theorem State.reset_eventsSound : State.reset.EventsSound :=
  ⟨fun _ he => (List.not_mem_nil he).elim, List.Pairwise.nil⟩

theorem Stream.powerOn_lockSound : Stream.powerOn.LockSound := by
  constructor <;> decide

theorem Stream.powerOn_tagSound : Stream.powerOn.TagSound :=
  ⟨rfl, fun _ _ h => by cases h⟩

theorem Stream.powerOn_rangeSound : Stream.powerOn.RangeSound := by
  constructor
  case pathA => constructor <;> decide
  case pathB => constructor <;> decide
  case peak => intro v h; cases h
  all_goals decide

theorem State.reset_tableSound : State.reset.TableSound where
  ranges k := by rw [State.stream_reset]; decide
  figures k h := by rw [State.stream_reset] at h; cases h
  played k h := by rw [State.stream_reset] at h; cases h
  cover n := by simp [State.reset, State.powerOn, CoverEntry.default]
  pages j _ h := by rw [State.stream_reset] at h; cases h

theorem State.reset_matrixSound : State.reset.MatrixSound where
  fade j := by simp [State.reset, State.powerOn, Matrix.powerOn, Slot.powerOn]
  transition j d h := by simp [State.reset, State.powerOn, Matrix.powerOn, Slot.powerOn] at h
  swap := rfl
  released _ := rfl

/-- Settles O3, block by block. -/
theorem powerOnStateMeetsEveryInvariant : Obligations.PowerOnStateMeetsEveryInvariant :=
  ⟨rfl, State.reset_queuesSound, State.reset_portsSound, State.reset_timebaseSound, State.reset_eventsSound,
    fun k => by rw [State.stream_reset]; exact Stream.powerOn_lockSound,
    fun k => by rw [State.stream_reset]; exact Stream.powerOn_tagSound,
    fun k => by rw [State.stream_reset]; exact Stream.powerOn_rangeSound,
    State.reset_tableSound, State.reset_matrixSound⟩

/-- Settles O19: the model's power-on values are, field by field, those of the tables. -/
theorem powerOnGivesThePowerOnValues : Obligations.PowerOnGivesThePowerOnValues := fun _ _ =>
  ⟨_, rfl, rfl, rfl, rfl, rfl, fun k => State.stream_powerOn _ _ _ _ _ _ k, rfl, rfl, rfl, rfl, rfl, rfl, rfl, rfl, rfl⟩

/-! ### The transmit queue -/

theorem LinkPort.complete_cons {l : LinkPort} {f : TxFrame} {rest : List TxFrame} (h : l.queue = f :: rest) :
    l.complete = { l with queue := rest, counters := l.counters.sent f.kind } := by
  simp [LinkPort.complete, h]

theorem LinkPort.complete_nil {l : LinkPort} (h : l.queue = []) : l.complete = l := by
  simp [LinkPort.complete, h]

/-- A change of a port is the change of what the port holds. -/
theorem State.modPort_congr {s : State} {p : Port} {f g : LinkPort → LinkPort} (h : f (s.port p) = g (s.port p)) :
    s.modPort p f = s.modPort p g := by
  cases p <;> simp only [State.port_a, State.port_b] at h <;> simp only [State.modPort, h]

theorem State.modPort_of_fixed {s : State} {p : Port} {f : LinkPort → LinkPort} (h : f (s.port p) = s.port p) :
    s.modPort p f = s := by
  cases p <;> simp only [State.port_a, State.port_b] at h <;> simp only [State.modPort, h]

/-- Settles O17: a hand-over joins or is lost, and a completion takes the oldest frame or finds none. -/
theorem transmitQueueIsFirstInFirstOut : Obligations.TransmitQueueIsFirstInFirstOut := by
  refine ⟨fun l f => ⟨fun ⟨hu, hq⟩ => LinkPort.hand_joins f hu hq, fun h => LinkPort.hand_lost f ?_⟩, fun s p => ⟨?_, ?_⟩⟩
  · cases hu : l.linkUp
    · exact .inl rfl
    · exact .inr (Nat.le_of_not_lt fun hq => h ⟨hu, hq⟩)
  · intro f rest hl hq
    have hc : LinkPort.complete (s.port p) = _ := LinkPort.complete_cons hq
    simp only [exec, execTransmissionComplete, hl, if_true]
    congr 1
    refine State.modPort_congr (hc.trans ?_)
    cases f.kind <;> rfl
  · intro h
    simp only [exec, execTransmissionComplete]
    rcases h with hq | hl
    · rw [State.modPort_of_fixed (LinkPort.complete_nil hq), ite_self]
    · rw [hl]
      rfl

/-! ### Lines and links -/

/-- A line's level among the eight, and the other seven as they were. -/
theorem getLsbD_setLine (levels : BitVec 8) (line : Fin 8) (asserted : Bool) (n : Fin 8) :
    (setLine levels line asserted).getLsbD n = if n = line then asserted else levels.getLsbD n := by
  have hbit : (1#8 <<< line.val).getLsbD n = decide (n = line) := by
    revert line n
    decide
  have hn := n.isLt
  cases asserted
  · simp only [setLine, Bool.false_eq_true, if_false, BitVec.getLsbD_and, BitVec.getLsbD_not, hbit, hn]
    split <;> simp_all
  · simp only [setLine, if_true, BitVec.getLsbD_or, hbit]
    split <;> simp_all

/-- Settles O18. Of the cut lines, the one that changes takes its level and the others keep theirs. -/
theorem inputLinesAndLinksAreHeld : Obligations.InputLinesAndLinksAreHeld := fun s =>
  ⟨fun _ _ => rfl, fun line asserted => ⟨setLine s.pins.cut line asserted, by
    simp only [exec, execCutLineChange]
    cases s.pins.resetLine <;> rfl, getLsbD_setLine _ _ _⟩, fun _ => rfl⟩

/-! ### The reset line -/

theorem execResetLineAssert_released {s : State} (h : s.pins.resetLine = false) :
    exec .resetLineAssert s = .next s.lineReset := by
  simp [exec, execResetLineAssert, h]

theorem State.stream_lineReset (s : State) (k : StreamId) : s.lineReset.stream k = (s.stream k).softReset.noWork := by
  simp [State.stream, State.lineReset, State.softReset, State.mapStreams]

/-- Settles O20: the assertion is `State.lineReset`, whose fields are the tables' reset values. -/
theorem resetLineClearsAndReleases : Obligations.ResetLineClearsAndReleases := by
  refine fun s => ⟨fun h => ⟨s.lineReset, execResetLineAssert_released h, rfl, rfl, rfl, fun k => s.stream_lineReset k, rfl,
    rfl, rfl, rfl, rfl, rfl, ?_⟩, fun h => ⟨?_, ?_⟩, fun h => ?_⟩
  · simp
  · simp [exec, execResetLineAssert, h]
  · simp [exec, execResetLineRelease, h]
  · simp [exec, execResetLineRelease, h]

/-! ### Taking and answering -/

theorem Request.general_iff (r : Request) : r.general = true ↔ r.env.unit = 0 := by simp [Request.general]

theorem Request.general_eq_false_iff (r : Request) : r.general = false ↔ r.env.unit ≠ 0 := by simp [Request.general]

theorem Result.code_eq_number (res : Result) : res.code = res.number := by cases res <;> rfl

/-- Settles O45, for a general request and for an addressed one. -/
theorem takenRequestIsCountedAndAnswered : Obligations.TakenRequestIsCountedAndAnswered := by
  refine fun s r => ⟨fun hu => ?_, fun hu => ?_⟩
  · have hg := r.general_iff.mpr hu
    refine ⟨?_, fun res data => State.answer_general hg res data⟩
    simp only [State.take, hg, if_true]
    rfl
  · have hg := r.general_eq_false_iff.mpr hu
    refine ⟨?_, fun res data => ?_⟩
    · simp only [State.take, hg, Bool.false_eq_true, if_false, State.countPort, State.modPort_frame,
        Request.alertDest]
    · rw [State.answer_addressed hg]
      refine State.modPort_congr ?_
      simp only [State.replyFrame, Result.code_eq_number, unitByte]

end Sys2Proof.Machine
end

section
/-! The records that READ and COLLECT return, laid out field by field, and READ (R14, R37, R158, R182, section 12.3). -/

namespace Sys2Proof.Machine

/-! ### The records, laid out as section 12.3 gives them -/

theorem Admission.code_eq (x : Admission) : x.code = if x = .a then 1 else if x = .b then 2 else 3 := by cases x <;> rfl

theorem FillMethod.code_eq (f : FillMethod) : f.code = if f = .zero then 0 else if f = .hold then 1 else 2 := by
  cases f <;> rfl

theorem Stream.recordBytes_eq (st : Stream) : st.recordBytes = st.streamRecord := by
  unfold Stream.recordBytes Stream.streamRecord
  dsimp only
  rw [flagByte_eq, Admission.code_eq, FillMethod.code_eq]
  cases st.record.tuning.watch <;> rfl

theorem Slip.code_eq (x : Slip) : x.code = slipCode x := by cases x <;> rfl

theorem PlayState.code_eq (x : PlayState) : x.code = if x = .idle then 0 else if x = .acquire then 1
    else if x = .filling then 2 else if x = .playing then 3 else 4 := by
  cases x <;> rfl

theorem Stream.statusBytes_eq (st : Stream) (mask : AlarmFlags) : st.statusBytes mask = st.statusRecord mask := by
  unfold Stream.statusBytes Stream.statusRecord
  simp only [flagByte_eq, Slip.code_eq, PlayState.code_eq, alarmSet_eq, toBytesSigned16, signed16, Stream.fig,
    Tuning.effRmax, AlarmFlags.automute]
  cases st.anchor with
  | none => simp only [anchorBytes]
  | some g => simp only [anchorBytes, List.cons_append, List.nil_append]

theorem Stream.pathCounterBytes_eq (st : Stream) : st.pathCounterBytes = st.pathCountersRecord := by
  simp only [Stream.pathCounterBytes, PathContext.counterBytes, Stream.pathCountersRecord, List.flatMap_cons,
    List.flatMap_nil, List.append_nil, List.append_assoc]
  cases st.pathA.expected <;> cases st.pathB.expected <;> rfl

theorem Stream.monitorBytes_eq (st : Stream) : st.monitorBytes = st.monitorsRecord := by
  simp [Stream.monitorBytes, PathContext.monitorBytes, Stream.monitorsRecord, flagByte_eq, toBytesSigned16, signed16]

theorem LinkPort.counterBytes_eq (l : LinkPort) : l.counterBytes = l.countersRecord := by
  simp [LinkPort.counterBytes, LinkPort.countersRecord]

theorem State.timebaseBytes_eq (s : State) : s.timebaseBytes = s.timebaseRecord := by
  have hr : s.tb.ref.code = if s.tb.ref = .freeRun then 0 else 1 := by cases s.tb.ref <;> rfl
  simp only [State.timebaseBytes, State.timebaseRecord, flagByte_eq, hr]

theorem CoverEntry.toBytes_eq (e : CoverEntry) : e.toBytes = e.coverRecord := rfl

theorem RouteRecord.toBytes_eq (r : RouteRecord) : r.toBytes = r.routeRecord := by
  have hs : r.source.code = if r.source = .stream then 0 else 1 := by cases r.source <;> rfl
  have he : r.enableSource.code = if r.enableSource = .own then 0 else 1 := by cases r.enableSource <;> rfl
  simp [RouteRecord.toBytes, RouteRecord.routeRecord, flagByte_eq, hs, he]

/-- A route is shadowed by a lower-numbered one in use that names its slot (R128). -/
theorem any_take_eq_any_finRange (b : Bank) (n : RouteId) (j : SlotId) :
    ((b.toList.take n.val).any fun r => r.names j)
      = (List.finRange 256).any fun m => decide (m < n) && b[m].inUse && decide (b[m].slot = j) := by
  rw [Bool.eq_iff_iff]
  simp only [List.any_eq_true, RouteRecord.names, Bool.and_eq_true, decide_eq_true_eq, List.mem_finRange, true_and]
  constructor
  · rintro ⟨r, hr, hu, hs⟩
    obtain ⟨i, hi, rfl⟩ := List.mem_take_iff_getElem.mp hr
    have hlt : i < n.val := by simpa using hi
    exact ⟨⟨i, hlt.trans n.isLt⟩, ⟨hlt, by simpa using hu⟩, by simpa using hs⟩
  · rintro ⟨m, ⟨hm, hu⟩, hs⟩
    refine ⟨b[m], List.mem_take_iff_getElem.mpr ⟨m.val, ?_, by simp⟩, hu, hs⟩
    have : m.val < n.val := hm
    simpa using this

theorem State.routeStatusBytes_eq (s : State) (n : RouteId) : s.routeStatusBytes n = s.routeStatus n := by
  simp only [State.routeStatusBytes, State.routeStatus, routeState, any_take_eq_any_finRange, flagByte_eq]
  cases hu : s.matrix.activeBank[n].inUse
  · simp [RouteState.code]
  · cases hs : (List.finRange 256).any fun m => decide (m < n) && s.matrix.activeBank[m].inUse
        && decide (s.matrix.activeBank[m].slot = s.matrix.activeBank[n].slot)
    · simp [RouteState.code]
    · simp [RouteState.code]

theorem State.deviceBytes_eq (s : State) : s.deviceBytes = s.deviceRecord := by
  simp [State.deviceBytes, State.deviceRecord, flagByte_eq, alarmSet_eq, unitByte]

theorem BankId.code_eq (b : BankId) : b.code = if b = .bank0 then 0 else 1 := by cases b <;> rfl

theorem BankId.code_other (b : BankId) : b.other.code = if b = .bank0 then 1 else 0 := by cases b <;> rfl

/-! ### What the taking of a request leaves -/

/-- The taking of a request changes of a port its counters alone. -/
theorem State.take_port_settings (s : State) (r : Request) (p : Port) :
    ((s.take r).port p).station = (s.port p).station ∧ ((s.take r).port p).etherType = (s.port p).etherType := by
  rcases s.port_take r p with h | ⟨c, h⟩ <;> rw [h] <;> exact ⟨rfl, rfl⟩

theorem State.deviceRecord_take (s : State) (r : Request) : (s.take r).deviceRecord = s.deviceRecord := by
  obtain ⟨ha, ha'⟩ := s.take_port_settings r .a
  obtain ⟨hb, hb'⟩ := s.take_port_settings r .b
  simp only [State.port_a, State.port_b] at ha ha' hb hb'
  simp only [State.deviceRecord, State.take_frame, ha, ha', hb, hb']

theorem State.timebaseRecord_take (s : State) (r : Request) : (s.take r).timebaseRecord = s.timebaseRecord := by
  simp only [State.timebaseRecord, State.take_frame]

theorem State.routeStatus_take (s : State) (r : Request) (n : RouteId) : (s.take r).routeStatus n = s.routeStatus n := by
  simp only [State.routeStatus, State.take_frame]

/-! ### READ -/

/-- A READ that the part takes, with an index and a count that name records of its object, is answered OK with them
(R182). -/
theorem State.handle_read {s : State} {code : Byte} {m : Envelope} {o : ObjectKind} (ho : objectKind code = some o)
    (h : s.Takes ⟨1, code, m⟩) (hn : Names m o.range.1 o.range.2) :
    s.handle ⟨1, code, m⟩ = (s.take ⟨1, code, m⟩).answer ⟨1, code, m⟩ .ok
      ((s.take ⟨1, code, m⟩).readData o m.index.toNat m.count.toNat) := by
  have hi : Request.indexPasses ⟨1, code, m⟩ .read = true := by
    simp only [Request.indexPasses, ho]
    exact hn.indexOk
  rw [h.handle, State.decideRequest_executes (k := .read) rfl (.inr rfl) (by simp [RequestKind.applies, ho]) hi rfl]
  simp only [State.execute, ho]
  rfl

theorem toBytes_two (v : Nat) : toBytes 2 v = [BitVec.ofNat 8 (v / 256), BitVec.ofNat 8 v] := by simp [toBytes]

theorem toBytes_four (v : Nat) : toBytes 4 v
    = [BitVec.ofNat 8 (v / 16777216), BitVec.ofNat 8 (v / 65536), BitVec.ofNat 8 (v / 256), BitVec.ofNat 8 v] := by
  simp [toBytes]

/-- Settles O46: each READ returns its object's records, which are laid out as section 12.3 says. -/
theorem readReturnsTheNamedRecords : Obligations.ReadReturnsTheNamedRecords := by
  intro s m i n taken reply
  refine ⟨fun o h hn => ⟨?_, ?_, ?_, ?_⟩, fun h hn => ?_, fun h hn => ?_, fun h hn => ?_, fun h hn => ?_, fun h hn => ?_,
    fun h hn => ?_, fun h hn => ?_, fun v => ⟨toBytes_two v, toBytes_four v⟩⟩
  · rintro rfl
    refine congrArg _ ((State.handle_read (o := .stream) rfl h hn).trans ?_)
    simp only [State.readData, State.stream_take, Stream.recordBytes_eq, taken, i, n]
  · rintro rfl
    refine congrArg _ ((State.handle_read (o := .streamStatus) rfl h hn).trans ?_)
    simp only [State.readData, State.stream_take, State.take_frame, Stream.statusBytes_eq, taken, i, n]
  · rintro rfl
    refine congrArg _ ((State.handle_read (o := .pathCounters) rfl h hn).trans ?_)
    simp only [State.readData, State.stream_take, Stream.pathCounterBytes_eq, taken, i, n]
  · rintro rfl
    refine congrArg _ ((State.handle_read (o := .monitors) rfl h hn).trans ?_)
    simp only [State.readData, State.stream_take, Stream.monitorBytes_eq, taken, i, n]
  · refine congrArg _ ((State.handle_read (o := .routeActive) rfl h hn).trans ?_)
    simp only [State.readData, State.take_frame, RouteRecord.toBytes_eq, State.routeStatusBytes_eq, State.routeStatus_take,
      BankId.code_eq, taken, i, n]
  · refine congrArg _ ((State.handle_read (o := .routeStandby) rfl h hn).trans ?_)
    simp only [State.readData, State.take_frame, RouteRecord.toBytes_eq, BankId.code_other, taken, i, n]
  · refine congrArg _ ((State.handle_read (o := .cover) rfl h hn).trans ?_)
    simp only [State.readData, State.take_frame, CoverEntry.toBytes_eq, taken, i, n]
  · refine congrArg _ ((State.handle_read (o := .pattern) rfl h hn).trans ?_)
    simp only [State.readData, State.take_frame, taken, i, n]
  · refine congrArg _ ((State.handle_read (o := .device) rfl h hn).trans ?_)
    simp only [State.readData, State.deviceBytes_eq, State.deviceRecord_take, taken]
  · refine congrArg _ ((State.handle_read (o := .portCounters) rfl h hn).trans ?_)
    simp only [State.readData, LinkPort.counterBytes_eq, named, taken, i, n]
  · refine congrArg _ ((State.handle_read (o := .timebase) rfl h hn).trans ?_)
    simp only [State.readData, State.timebaseBytes_eq, State.timebaseRecord_take, taken]

end Sys2Proof.Machine
end

section
/-! The requests COLLECT, WRITE of DEVICE and RESET (R14, R37, R159, R187 to R189). -/

namespace Sys2Proof.Machine

/-! ### COLLECT -/

/-- A COLLECT that the part takes, with an index and a count that name records of its object, returns them and zeroes them
(R185). -/
theorem State.handle_collect {s : State} {code : Byte} {m : Envelope} {o : ObjectKind} (ho : objectKind code = some o)
    (ha : RequestKind.collect.applies code = true) (h : s.Takes ⟨10, code, m⟩) (hn : Names m o.range.1 o.range.2) :
    s.handle ⟨10, code, m⟩ = ((s.take ⟨10, code, m⟩).zeroed o m.index.toNat m.count.toNat).answer ⟨10, code, m⟩ .ok
      ((s.take ⟨10, code, m⟩).readData o m.index.toNat m.count.toNat) := by
  have hi : Request.indexPasses ⟨10, code, m⟩ .collect = true := by
    simp only [Request.indexPasses, ho]
    exact hn.indexOk
  rw [h.handle, State.decideRequest_executes (k := .collect) rfl (.inr rfl) ha hi rfl]
  simp only [State.execute, ho]
  rfl

theorem mem_named (index count v : Nat) : v ∈ named index count ↔ index ≤ v ∧ v < index + count := by
  simp [named]

/-- The streams that an index and a count name, by their numbers (R17). -/
theorem mem_namedStreams (index count : Nat) (k : StreamId) :
    k ∈ namedStreams index count ↔ index ≤ k.val + 1 ∧ k.val + 1 < index + count := by
  simp only [namedStreams, List.mem_filterMap, mem_named, readStreamId_eq_some_iff, exists_eq_right]

/-- Changing the named streams changes those whose numbers the index and the count name. -/
theorem State.modStreams_named (s : State) (index count : Nat) (f : Stream → Stream) :
    s.modStreams (namedStreams index count) f = { s with streams := Vector.ofFn fun k : StreamId =>
      if index ≤ k.val + 1 ∧ k.val + 1 < index + count then f (s.stream k) else s.stream k } := by
  simp only [State.modStreams, mem_namedStreams, State.stream]

/-- Settles O47: what is returned is what READ returns, and what is zeroed are the named records' parts. -/
theorem collectReturnsAndZeroes : Obligations.CollectReturnsAndZeroes := by
  refine fun s m => ⟨fun h hn => ?_, fun h hn => ?_, fun h hn => ?_⟩
  · refine congrArg _ ((State.handle_collect (o := .portCounters) rfl rfl h hn).trans ?_)
    obtain ⟨least, -, -, upTo⟩ := hn
    have h0 : 0 ∈ named m.index.toNat m.count.toNat ↔ m.index.toNat = 0 := by
      rw [mem_named]
      omega
    have h1 : 1 ∈ named m.index.toNat m.count.toNat ↔ 2 ≤ m.index.toNat + m.count.toNat := by
      rw [mem_named]
      omega
    simp only [State.zeroed, h0, h1, State.readData, LinkPort.counterBytes_eq]
    rfl
  · refine congrArg _ ((State.handle_collect (o := .pathCounters) rfl rfl h hn).trans ?_)
    simp only [State.zeroed, State.modStreams_named, State.readData, State.stream_take, Stream.pathCounterBytes_eq]
    rfl
  · refine congrArg _ ((State.handle_collect (o := .monitors) rfl rfl h hn).trans ?_)
    simp only [State.zeroed, State.modStreams_named, State.readData, State.stream_take, Stream.monitorBytes_eq]
    rfl

/-! ### WRITE of DEVICE -/

/-- The least significant bit of the first of the six bytes of a station address is its group bit (R2, R5). -/
theorem isGroup_field {b : List Byte} {off : Nat} (h : off + 6 ≤ b.length) :
    isGroup (BitVec.ofNat 48 (field b off 6)) = decide (field b off 1 % 2 = 1) := by
  have hadd : field b off (1 + 5) = field b off 1 * 256 ^ 5 + field b (off + 1) 5 := field_add h
  have hlt := field_lt b (off + 1) 5
  have hdiv : field b off 6 / 2 ^ 40 = field b off 1 := by
    show field b off (1 + 5) / 2 ^ 40 = field b off 1
    rw [hadd]
    omega
  simp only [isGroup, BitVec.getLsbD_ofNat, Nat.testBit_eq_decide_div_mod_eq, hdiv]
  simp

/-- A field narrow enough for a word is 0 in the word exactly where it is 0, and so for other values. -/
theorem ofNat_field_eq_iff {w : Nat} (b : List Byte) (off size v : Nat) (hw : 256 ^ size = 2 ^ w) (hv : v < 256 ^ size) :
    BitVec.ofNat w (field b off size) = BitVec.ofNat w v ↔ field b off size = v := by
  have hf := field_lt b off size
  rw [← BitVec.toNat_inj, BitVec.toNat_ofNat, BitVec.toNat_ofNat, Nat.mod_eq_of_lt (hw ▸ hf), Nat.mod_eq_of_lt (hw ▸ hv)]

theorem not_stationOk_field {b : List Byte} {off : Nat} (h : off + 6 ≤ b.length) :
    stationOk (BitVec.ofNat 48 (field b off 6)) = false ↔ field b off 1 % 2 = 1 ∨ field b off 6 = 0 := by
  have h0 := ofNat_field_eq_iff (w := 48) b off 6 0 rfl (by decide)
  rw [stationOk, isGroup_field h, ← h0]
  by_cases hg : field b off 1 % 2 = 1 <;> simp [hg]

theorem not_etherTypeOk_field (b : List Byte) (off : Nat) :
    etherTypeOk (BitVec.ofNat 16 (field b off 2)) = false ↔ field b off 2 < 0x0600 ∨ field b off 2 = 0x8100 := by
  have h0 := ofNat_field_eq_iff (w := 16) b off 2 0x8100 rfl (by decide)
  have hf := field_lt b off 2
  have ht : (BitVec.ofNat 16 (field b off 2)).toNat = field b off 2 := by
    rw [BitVec.toNat_ofNat]
    exact Nat.mod_eq_of_lt hf
  rw [etherTypeOk, ht, ← h0]
  by_cases hg : 0x0600 ≤ field b off 2
  · simp [hg, Nat.not_lt.mpr hg]
  · simp [hg, Nat.lt_of_not_le hg]

/-- The data of a WRITE of DEVICE is refused where a flag or one of the five numbers is out of range. -/
theorem readDeviceWrite_eq_none_iff (b : List Byte) : readDeviceWrite b = none ↔
    BitVec.ofNat 8 (field b 0 1) = 0 ∨ BitVec.ofNat 8 (field b 0 1) = 255
      ∨ stationOk (BitVec.ofNat 48 (field b 2 6)) = false ∨ stationOk (BitVec.ofNat 48 (field b 8 6)) = false
      ∨ etherTypeOk (BitVec.ofNat 16 (field b 14 2)) = false ∨ etherTypeOk (BitVec.ofNat 16 (field b 16 2)) = false
      ∨ readFlag (field b 18 1) = none ∨ readFlag (field b 19 1) = none := by
  unfold readDeviceWrite
  cases hr : readFlag (field b 18 1)
  · simp
  · cases hp : readFlag (field b 19 1)
    · simp
    · simp only [Bool.and_eq_true, Bool.not_eq_true', decide_eq_false_iff_not, ite_eq_right_iff, reduceCtorEq, imp_false,
        not_and_or, not_not, Bool.not_eq_true, or_false, or_assoc]

/-- A WRITE of DEVICE that the part takes, unprotected, with the data that it needs. -/
theorem State.handle_writeDevice {s : State} {m : Envelope} (h : s.Takes ⟨2, 7, m⟩) (hp : s.pins.protect = false)
    (hn : Names m 0 1) (hd : 28 ≤ m.data.length) :
    s.handle ⟨2, 7, m⟩ = (s.take ⟨2, 7, m⟩).writeDeviceSettings ⟨2, 7, m⟩ := by
  have hc : m.count.toNat = 1 := by
    obtain ⟨least, -, -, upTo⟩ := hn
    omega
  have hi : Request.indexPasses ⟨2, 7, m⟩ .write = true := Names.indexOk (o := .device) hn
  have hdata : Request.dataPasses ⟨2, 7, m⟩ .write = true := by
    show decide (m.count.toNat * 28 ≤ m.data.length) = true
    simpa [hc] using hd
  rw [h.handle, State.decideRequest_executes (k := .write) rfl (.inl (by simpa using hp)) rfl hi hdata]
  rfl

/-- Settles O51: the values refused, one field at a time; then the refusal, and the reply before the new settings. -/
theorem writeDeviceAnswersFromTheOldSettings : Obligations.WriteDeviceAnswersFromTheOldSettings := by
  refine ⟨fun b hb => ?_, fun s m h hp hn hd => ⟨fun hw => ?_, fun w hw => ?_⟩⟩
  · have h0 : BitVec.ofNat 8 (field b 0 1) = 0 ↔ field b 0 1 = 0 := ofNat_field_eq_iff b 0 1 0 rfl (by decide)
    have h255 : BitVec.ofNat 8 (field b 0 1) = 255 ↔ field b 0 1 = 255 := ofNat_field_eq_iff b 0 1 255 rfl (by decide)
    rw [readDeviceWrite_eq_none_iff, readFlag_eq_none_iff, readFlag_eq_none_iff,
      not_stationOk_field (by omega), not_stationOk_field (by omega), not_etherTypeOk_field,
      not_etherTypeOk_field, h0, h255]
    simp only [or_assoc]
  · refine congrArg _ ((State.handle_writeDevice h hp hn hd).trans ?_)
    simp only [State.writeDeviceSettings, hw]
  · obtain ⟨⟨h0, h255⟩, -⟩ := readDeviceWrite_legal hw
    refine ⟨h0, h255, congrArg _ ((State.handle_writeDevice h hp hn hd).trans ?_)⟩
    simp only [State.writeDeviceSettings, hw, State.applyDevice, State.answer_frame, State.take_frame]

/-! ### RESET -/

/-- A RESET that the part takes, unprotected, with a flag, is answered and then performed (R189). -/
theorem State.handle_reset {s : State} {o : Byte} {m : Envelope} {clear : Bool} (h : s.Takes ⟨11, o, m⟩)
    (hp : s.pins.protect = false) (hc : Request.clearTables ⟨11, o, m⟩ = some clear) :
    s.handle ⟨11, o, m⟩ = (s.take ⟨11, o, m⟩).doReset ⟨11, o, m⟩ clear := by
  have hd : Request.dataPasses ⟨11, o, m⟩ .reset = true := by
    show (Request.clearTables ⟨11, o, m⟩).isSome = true
    rw [hc, Option.isSome_some]
  rw [h.handle, State.decideRequest_executes (k := .reset) rfl (.inl (by simpa using hp)) rfl rfl hd]
  simp only [State.execute, hc, Option.getD_some]

/-- A stream's reset with clear-tables, after the reset common to all, is the reset of the default record, disabled (R21,
R189). -/
theorem Stream.clearReset_comp_softReset :
    Stream.clearReset ∘ Stream.softReset = fun st => Stream.afterReset { st with
      enabled := false, record := defaultRecord, figures := none, channels := defaultRecord.shape.channels,
      inForce := defaultRecord.tuning } := rfl

/-- What every RESET request does, field by field (R15, R21, R66, R138, R176, R189). -/
theorem State.softReset_eq (s : State) : s.softReset = { s with
    tb := { s.tb with ref := .freeRun, missedRun := 0, goodRun := 0, spanOpen := false },
    ev := { refLost := false, events := [], alertPending := false, alertDest := none },
    streams := s.streams.map Stream.afterReset,
    portA := { s.portA with counters := ⟨0, 0, 0, 0, 0, 0, 0, 0⟩ },
    portB := { s.portB with counters := ⟨0, 0, 0, 0, 0, 0, 0, 0⟩ },
    matrix := { s.matrix with slots := s.matrix.slots.map fun j => { j with fade := 0, transition := .none } } } := rfl

/-- What a RESET request with clear-tables does, field by field (R21, R113, R127, R143, R189). -/
theorem State.clearReset_eq (s : State) : s.clearReset = { s with
    tb := { s.tb with ref := .freeRun, missedRun := 0, goodRun := 0, spanOpen := false },
    ev := { refLost := false, events := [], alertPending := false, alertDest := none },
    streams := s.streams.map fun st => Stream.afterReset { st with
      enabled := false, record := defaultRecord, figures := none, channels := defaultRecord.shape.channels,
      inForce := defaultRecord.tuning },
    portA := { s.portA with counters := ⟨0, 0, 0, 0, 0, 0, 0, 0⟩, etherType := 0x88B5 },
    portB := { s.portB with counters := ⟨0, 0, 0, 0, 0, 0, 0, 0⟩, etherType := 0x88B5 },
    cover := Vector.replicate 8 { inUse := false, primary := 0, cover := 1 },
    dev := { unit := s.dev.unit, strap := s.dev.strap, rephase := true, patternHold := false,
             muteMask := ⟨false, false, true, true, true⟩, eventEnable := 0x7FF, alertEnable := 0x7FF },
    matrix := { s.matrix with
      slots := s.matrix.slots.map fun j => { j with fade := 0, transition := .none },
      bank0 := Vector.replicate 256 defaultRoute, bank1 := Vector.replicate 256 defaultRoute,
      active := .bank0, live := Vector.replicate 48 0, shadow := Vector.replicate 48 0 } } := by
  unfold State.clearReset State.softReset State.mapStreams
  dsimp only
  rw [Vector.map_map, Stream.clearReset_comp_softReset]
  rfl

/-- Settles O57: the reply is formed before the reset, and each block takes the values of its table. -/
theorem resetRequestAnswersAndThenResets : Obligations.ResetRequestAnswersAndThenResets := by
  intro s o m rest h hp v tb ev slots
  refine ⟨fun hm => ?_, fun hm => ?_⟩
  · have hx : exec (.reset o m) s = .next (s.handle ⟨11, o, m⟩) := by simp [exec, execReset, hm]
    rw [hx, State.handle_reset (clear := false) h hp (by simp [Request.clearTables, hm, readFlag])]
    refine congrArg _ ((State.softReset_eq v).trans ?_)
    simp only [v, State.answer_frame, State.take_frame, tb, ev, slots]
  · have hx : exec (.resetClearTables o m) s = .next (s.handle ⟨11, o, m⟩) := by simp [exec, execResetClearTables, hm]
    rw [hx, State.handle_reset (clear := true) h hp (by simp [Request.clearTables, hm, readFlag])]
    refine congrArg _ ((State.clearReset_eq v).trans ?_)
    simp only [v, State.answer_frame, State.take_frame, tb, ev, slots]

end Sys2Proof.Machine
end

section
/-! What a command can do to one stream of the table: the moves that every event is made of (R19, R25, R26, R28 to R36, R45, R54,
R68 to R81, R90, R148 to R156). -/

namespace Sys2Proof.Machine

/-! ### The moves of one stream -/

/-- The stream has a state and an alarm set of its own: it is enabled, or not in IDLE. -/
def Stream.Active (st : Stream) : Prop := st.enabled = true ∨ st.state ≠ .idle

/-- A stream after a relock, STARVED cleared (R73). -/
def Stream.unlocked (st : Stream) : Stream := { st.relocked with alarms := st.alarms.set .starved false }

/-- A stream with the tag of a segment stored at its slot position (R45). -/
def Stream.tagged (st : Stream) (g : Segment) : Stream :=
  { st with tags := insertKey st.tags (st.slotOf g.seq) ⟨g.seq, g.origin⟩ }

/-- What the boundary stage can do to its stream (R70, R72, R84, R85). -/
inductive Stream.BoundaryMove (st : Stream) : Stream → Prop where
  | none : st.BoundaryMove st
  | quiet (h : st.state = .playing) : st.BoundaryMove { st with quiet := st.quietAdvanced }
  | starve (h : st.state = .playing) :
    st.BoundaryMove { st with quiet := st.quietAdvanced, state := .holdover, holdover := 0,
                              alarms := st.alarms.set .starved true }
  | holdover (h : st.state = .holdover) :
    st.BoundaryMove { st with quiet := st.quietAdvanced, holdover := st.holdoverAdvanced }
  | relock (h : st.state = .holdover) : st.BoundaryMove st.unlocked

/-- A stream after its frame stage has formed an output, less the silence detector's part (R69, R78). -/
def Stream.afterStage (st : Stream) (o : StageOutput) : Stream :=
  if st.reachesFillStart then (st.staged o).enterPlaying else st.staged o

/-- The parts of an event in one stream, each of them whole in the sense that it keeps every invariant of a stream. -/
inductive Stream.Move (st : Stream) : Stream → Prop where
  | powerOn : st.Move Stream.powerOn
  | softReset : st.Move st.softReset
  | clearReset : st.Move st.clearReset
  | newFrame (boundary : Bool) : st.Move (st.newFrame boundary)
  | copyTuning : st.Move st.copyTuning
  | work (frame step monitor peak : Bool) :
    st.Move { st with frameDue := frame, stepDue := step, monitorDue := monitor, peakDue := peak }
  | path (p : Port) (f : PathContext → PathContext) (h : (st.path p).RangeSound → (f (st.path p)).RangeSound) :
    st.Move (st.modPath p f)
  | alarm (a : StreamAlarm) (v : Bool) (ha : a ≠ .starved) (h : v = true → st.Active) :
    st.Move { st with alarms := st.alarms.set a v }
  | relock (h : st.Active) : st.Move st.unlocked
  | reject (h : st.rejectRun + 1 < 16) : st.Move { st with rejectRun := st.rejectRun + 1 }
  | first (g : Segment) (h : st.verdict g = .first) : st.Move ((st.tagged g).startLock g)
  | accept (g : Segment) (h : st.verdict g = .accepted) :
    st.Move { (st.tagged g).accept g with
      alarms := if st.state = .holdover then st.alarms.set .starved false else st.alarms }
  | stage (o : StageOutput) {st' : Stream} (h : st.BoundaryMove st') : st.Move (st'.afterStage o)
  | detector (peak : Option Nat) (run : Nat) (silence opened : Bool)
      (hp : (∀ v, st.blockPeak = some v → v ≤ 65536) → ∀ v, peak = some v → v ≤ 65536)
      (hr : st.silentRun ≤ 65535 → run ≤ 65535) :
    st.Move { st with blockPeak := peak, silentRun := run, silence := silence, relockOpen := opened }
  | servoStep (h : st.state = .playing) : st.Move st.stepPlaying
  | write (r : StreamRecord) (h : r.inRange = true) (hs : st.enabled = true → r.shape = st.record.shape) :
    st.Move { st with record := r }
  | disable : st.Move st.disable
  | collectMonitors : st.Move { st with tightest := 32767, concealed := 0, covered := 0 }

/-- Any number of moves, one after the other. -/
abbrev Stream.Moves : Stream → Stream → Prop := Relation.ReflTransGen Stream.Move

/-- Every stream of the table goes from one state to the other by moves. -/
def State.StreamsMove (s t : State) : Prop := ∀ j, (s.stream j).Moves (t.stream j)

theorem State.StreamsMove.trans {s t u : State} (h : s.StreamsMove t) (h' : t.StreamsMove u) : s.StreamsMove u :=
  fun j => (h j).trans (h' j)

/-- An event that leaves every stream as it was. -/
theorem State.streamsMove_of_eq {s t : State} (h : t.streams = s.streams := by simp) : s.StreamsMove t :=
  fun j => State.stream_congr h j ▸ .refl

theorem State.StreamsMove.refl (s : State) : s.StreamsMove s := State.streamsMove_of_eq rfl

/-- An event that moves one stream and leaves the others. -/
theorem State.streamsMove_of_stream {s t : State} {k : StreamId} (hk : (s.stream k).Moves (t.stream k))
    (ho : ∀ j, j ≠ k → t.stream j = s.stream j) : s.StreamsMove t := fun j => by
  by_cases hj : j = k
  · subst hj
    exact hk
  · exact ho j hj ▸ .refl

theorem State.streamsMove_modStream {s : State} {k : StreamId} {f : Stream → Stream}
    (h : (s.stream k).Moves (f (s.stream k))) : s.StreamsMove (s.modStream k f) :=
  State.streamsMove_of_stream (k := k) (by simpa using h) fun _ hj => State.stream_modStream_other s f hj

theorem State.streamsMove_mapStreams {s : State} {f : Stream → Stream} (h : ∀ st : Stream, st.Move (f st)) :
    s.StreamsMove (s.mapStreams f) := fun j => by
  rw [State.stream_mapStreams]
  exact .single (h _)

theorem State.streamsMove_modStreams {s : State} {ks : List StreamId} {f : Stream → Stream}
    (h : ∀ st : Stream, st.Moves (f st)) : s.StreamsMove (s.modStreams ks f) := fun j => by
  rw [State.stream_modStreams]
  split
  · exact h _
  · exact .refl

/-- A change of the streams, and then an event that leaves them. -/
theorem State.StreamsMove.of_streams {s t u : State} (h : s.StreamsMove t) (hu : u.streams = t.streams) :
    s.StreamsMove u := h.trans (State.streamsMove_of_eq hu)

theorem State.StreamsMove.latch {s t : State} (h : s.StreamsMove t) (kind : EventKind) (n : Nat) :
    s.StreamsMove (t.latch kind n) := h.of_streams (by simp)

/-- An event that leaves the streams, and then a change of them. -/
theorem State.StreamsMove.from_streams {s t u : State} (h : t.StreamsMove u) (ht : t.streams = s.streams) :
    s.StreamsMove u := (State.streamsMove_of_eq ht).trans h

/-! ### Alarms and relocks -/

theorem State.streamsMove_raise {s : State} {k : StreamId} {a : StreamAlarm} (ha : a ≠ .starved)
    (h : (s.stream k).Active) : s.StreamsMove (s.raise k a) := fun j => by
  rw [State.stream_raise]
  split
  · rename_i hj
    subst hj
    exact .single (.alarm a true ha fun _ => h)
  · exact .refl

theorem State.streamsMove_clearAlarm {s : State} {k : StreamId} {a : StreamAlarm} (ha : a ≠ .starved) :
    s.StreamsMove (s.clearAlarm k a) := fun j => by
  rw [State.stream_clearAlarm]
  split
  · rename_i hj
    subst hj
    exact .single (.alarm a false ha fun h => by cases h)
  · exact .refl

theorem State.stream_relock_eq (s : State) (k j : StreamId) :
    (s.relock k).stream j = if j = k then (s.stream k).unlocked else s.stream j := State.stream_relock s k j

theorem State.streamsMove_relock {s : State} {k : StreamId} (h : (s.stream k).Active) : s.StreamsMove (s.relock k) :=
  fun j => by
  rw [State.stream_relock_eq]
  split
  · rename_i hj
    subst hj
    exact .single (.relock h)
  · exact .refl

/-! ### The monitor unit and the servo -/

theorem PathContext.RangeSound.congr {c d : PathContext} (h : c.RangeSound) (hb : d.blocksSince = c.blocksSince)
    (hl : d.lastInterval = c.lastInterval) (hg : d.largestInterval = c.largestInterval) : d.RangeSound :=
  ⟨hb ▸ h.blocks, hl ▸ h.last, hg ▸ h.largest⟩

theorem PathContext.advanced_le (c : PathContext) : c.advanced ≤ 255 := Nat.min_le_right _ _

theorem PathContext.RangeSound.testGap {c : PathContext} (h : c.RangeSound) (n : HouseCount) :
    (c.testGap n).RangeSound := by
  unfold PathContext.testGap
  split
  · exact ⟨h.blocks, le_rfl, le_rfl⟩
  · exact h

/-- An advance of a path raises the path's condition alone, and leaves the stream enabled and in its state. -/
theorem State.advancePath_moves {s : State} {k : StreamId} (p : Port) (h : (s.stream k).Active) :
    s.StreamsMove (s.advancePath k p) ∧ ((s.advancePath k p).stream k).Active := by
  have hp : pathAlarm p ≠ .starved := by cases p <;> decide
  unfold State.advancePath
  split
  · split
    · have hm : s.StreamsMove (s.modStream k fun st => st.modPath p fun c =>
          { c with blocksSince := c.advanced, down := true }) :=
        State.streamsMove_modStream <| .single <| .path p _ fun hc => ⟨PathContext.advanced_le _, hc.last, hc.largest⟩
      have ha : ((s.modStream k fun st => st.modPath p fun c =>
          { c with blocksSince := c.advanced, down := true }).stream k).Active := by
        rw [State.stream_modStream_same]
        cases p <;> exact h
      refine ⟨hm.trans (State.streamsMove_raise hp ha), ?_⟩
      rw [State.stream_raise, if_pos rfl]
      exact ha
    · refine ⟨State.streamsMove_modStream <| .single <| .path p _ fun hc =>
        ⟨PathContext.advanced_le _, hc.last, hc.largest⟩, ?_⟩
      rw [State.stream_modStream_same]
      cases p <;> exact h
  · exact ⟨.refl s, h⟩

/-- The silent run and the monitor's record of SILENCE take new values (R155, R156). -/
theorem Stream.moves_silentRun (st : Stream) {n : Nat} (b : Bool) (h : n ≤ 65535) :
    st.Moves { st with silentRun := n, silence := b } := .single (.detector _ _ _ _ id fun _ => h)

theorem State.streamsMove_endSilence (s : State) (k : StreamId) : s.StreamsMove (s.endSilence k) := by
  unfold State.endSilence
  split
  · exact (State.streamsMove_modStream (Stream.moves_silentRun _ false (Nat.zero_le _))).trans
      (State.streamsMove_clearAlarm (by decide))
  · exact State.streamsMove_modStream (Stream.moves_silentRun _ _ (Nat.zero_le _))

theorem Stream.runAdvanced_le (st : Stream) : st.runAdvanced ≤ 65535 := Nat.min_le_right _ _

/-- A close that tests reads PLAYING or HOLDOVER (R155). -/
theorem Stream.not_idle_of_closeTests {st : Stream} (h : st.closeTests = true) : st.state ≠ .idle := by
  intro hi
  simp [Stream.closeTests, hi, PlayState.plays] at h

theorem State.streamsMove_testPeak {s : State} {k : StreamId} {st : Stream} (hs : (s.stream k).state = st.state) :
    s.StreamsMove (s.testPeak k st) := by
  unfold State.testPeak
  split
  · rename_i ht
    split
    · exact .refl s
    · split
      · split
        · refine (State.streamsMove_modStream (Stream.moves_silentRun _ true st.runAdvanced_le)).trans
            (State.streamsMove_raise (by decide) (.inr ?_))
          rw [State.stream_modStream_same]
          exact hs ▸ Stream.not_idle_of_closeTests ht
        · exact State.streamsMove_modStream (Stream.moves_silentRun _ _ st.runAdvanced_le)
      · exact s.streamsMove_endSilence k
  · exact s.streamsMove_endSilence k

theorem State.streamsMove_closePeak (s : State) (k : StreamId) : s.StreamsMove (s.closePeak k) := by
  unfold State.closePeak
  split
  · refine (State.streamsMove_modStream ?_).trans (State.streamsMove_testPeak (by simp))
    exact .tail (.single (.detector none _ _ false (fun _ _ hv => by cases hv) id)) (.work _ _ _ false)
  · exact .refl s

theorem State.streamsMove_monitorWork {s : State} {k : StreamId} (h : (s.stream k).Active) :
    s.StreamsMove (s.monitorWork k) := by
  obtain ⟨ha, h'⟩ := State.advancePath_moves .a h
  refine (ha.trans (State.advancePath_moves .b h').1).trans ?_
  refine (State.streamsMove_modStream ?_).trans (State.streamsMove_closePeak _ k)
  exact .tail (.tail (.single (.path .a _ fun hc => hc.testGap s.tb.h)) (.path .b _ fun hc => hc.testGap s.tb.h))
    (.work _ _ false _)

theorem State.streamsMove_setServoLimit {s : State} {k : StreamId} {holds : Bool}
    (h : holds = true → (s.stream k).Active) : s.StreamsMove (s.setServoLimit k holds) := by
  unfold State.setServoLimit
  split
  · exact State.streamsMove_raise (by decide) (h (by assumption))
  · split
    · exact State.streamsMove_clearAlarm (by decide)
    · exact .refl s

theorem State.streamsMove_servoWork (s : State) (k : StreamId) : s.StreamsMove (s.servoWork k) := by
  have idles : s.StreamsMove (s.modStream k fun st => { st with stepDue := false }) :=
    State.streamsMove_modStream (.single (.work _ false _ _))
  unfold State.servoWork
  split
  · rename_i hs
    refine (State.streamsMove_modStream (.single (.servoStep hs))).trans
      (State.streamsMove_setServoLimit fun _ => .inr ?_)
    rw [State.stream_modStream_same]
    simp [Stream.stepPlaying, hs]
  · exact idles
  · exact idles.trans (State.streamsMove_setServoLimit fun h => by cases h)
  · exact idles.trans (State.streamsMove_setServoLimit fun h => by cases h)
  · exact .refl s

/-! ### The playout engine -/

/-- What the boundary stage leaves of its stream, and that it leaves the others (R70, R72). -/
theorem State.boundaryStage_move (s : State) (k : StreamId) :
    (s.stream k).BoundaryMove ((s.boundaryStage k).stream k)
      ∧ ∀ j, j ≠ k → (s.boundaryStage k).stream j = s.stream j := by
  unfold State.boundaryStage
  split
  · rename_i h
    split
    · refine ⟨?_, fun j hj => ?_⟩
      · rw [State.stream_raise, if_pos rfl, State.stream_modStream_same]
        exact .starve h
      · rw [State.stream_raise, if_neg hj, State.stream_modStream_other _ _ hj]
    · exact ⟨by rw [State.stream_modStream_same]; exact .quiet h, fun j hj => State.stream_modStream_other _ _ hj⟩
  · rename_i h
    split
    · refine ⟨?_, fun j hj => ?_⟩
      · rw [State.stream_relock_eq, if_pos rfl]
        exact .relock h
      · rw [State.stream_relock_eq, if_neg hj]
    · exact ⟨by rw [State.stream_modStream_same]; exact .holdover h, fun j hj => State.stream_modStream_other _ _ hj⟩
  all_goals exact ⟨.none, fun _ _ => rfl⟩

/-- A sample reduced to 16 bits is at most 65536 (R153). -/
theorem peakOf_le (v : Sample) : peakOf v ≤ 65536 := by
  have h := v.toInt_lt
  have h' := v.le_toInt
  unfold peakOf
  omega

theorem Stream.enterPeak_moves (st : Stream) (formedIn : PlayState) (out : Frame) :
    st.Moves (st.enterPeak formedIn out) := by
  unfold Stream.enterPeak
  split
  · exact .refl
  · dsimp only
    split
    · refine .single (.detector _ _ _ _ (fun hb v hv => ?_) id)
      cases hv
      refine max_le ?_ (peakOf_le _)
      cases hp : st.blockPeak with
      | none => exact Nat.zero_le _
      | some w => exact hb w hp
    · exact .refl

/-- A frame stage after the boundary stage, in the stream that the boundary stage leaves. -/
theorem State.streamsMove_frameStage {s t : State} {k : StreamId} (hk : (s.stream k).BoundaryMove (t.stream k))
    (ho : ∀ j, j ≠ k → t.stream j = s.stream j) : s.StreamsMove (t.frameStage k) := by
  have staged (f : Stream → Stream) (hf : f (t.stream k) = (t.stream k).afterStage (t.formOutput k)) :
      s.StreamsMove (t.modStream k f) := by
    refine State.streamsMove_of_stream (k := k) ?_ fun j hj => ?_
    · rw [State.stream_modStream_same, hf]
      exact .single (.stage _ hk)
    · rw [State.stream_modStream_other _ _ hj, ho j hj]
  have detected (u : State) (formedIn : PlayState) (out : Frame) : u.StreamsMove (u.handToDetector k formedIn out) :=
    (u.streamsMove_closePeak k).trans (State.streamsMove_modStream (Stream.enterPeak_moves _ _ _))
  unfold State.frameStage
  dsimp only
  split
  · rename_i hr
    have hs := staged (fun st => (st.staged (t.formOutput k)).enterPlaying) (by rw [Stream.afterStage, if_pos hr])
    exact (hs.trans (detected _ _ _)).latch _ _
  · rename_i hr
    have hs := staged (fun st => st.staged (t.formOutput k)) (by rw [Stream.afterStage, if_neg hr])
    exact hs.trans (detected _ _ _)

theorem State.streamsMove_playoutWork (s : State) (k : StreamId) : s.StreamsMove (s.playoutWork k) := by
  unfold State.playoutWork
  split
  · obtain ⟨hk, ho⟩ := s.boundaryStage_move k
    exact State.streamsMove_frameStage hk ho
  · exact State.streamsMove_frameStage .none fun _ _ => rfl

/-! ### The segment classifier -/

theorem PathContext.RangeSound.arrive {c : PathContext} (h : c.RangeSound) (n : HouseCount) (q : Seq) :
    (c.arrive n q).RangeSound := by
  have captured : (PathContext.capture { c with blocksSince := 0 } n).RangeSound := by
    have hi : ∀ last, arrivalInterval n last ≤ 65535 := fun _ => Nat.min_le_right _ _
    unfold PathContext.capture
    split
    · exact ⟨Nat.zero_le _, h.last, h.largest⟩
    · split
      · exact ⟨Nat.zero_le _, h.last, h.largest⟩
      · exact ⟨Nat.zero_le _, hi _, max_le h.largest (hi _)⟩
  unfold PathContext.arrive PathContext.track
  dsimp only
  repeat' split
  all_goals exact captured.congr rfl rfl rfl

theorem State.streamsMove_clearPathDown (s : State) (k : StreamId) (p : Port) : s.StreamsMove (s.clearPathDown k p) := by
  unfold State.clearPathDown
  split
  · exact (State.streamsMove_modStream (.single (.path p _ fun hc => hc.congr rfl rfl rfl))).trans
      (State.streamsMove_clearAlarm (by cases p <;> decide))
  · exact .refl s

theorem State.streamsMove_tallyPath (s : State) (k : StreamId) (p : Port) (g : Segment) (v : Verdict) :
    s.StreamsMove (s.tallyPath k p g v) := by
  unfold State.tallyPath
  split
  · exact .refl s
  · exact State.streamsMove_modStream (.single (.path p _ fun hc => hc.congr rfl rfl rfl))
  · refine (s.streamsMove_clearPathDown k p).trans (State.streamsMove_modStream (.single (.path p _ fun hc => ?_)))
    refine PathContext.RangeSound.arrive ?_ _ _
    exact hc.congr rfl rfl rfl

/-- The verdict on a segment does not read the paths and the alarms. -/
theorem Stream.verdict_modPath (st : Stream) (p : Port) (f : PathContext → PathContext) (g : Segment) :
    (st.modPath p f).verdict g = st.verdict g := by cases p <;> rfl

theorem Stream.verdict_alarms (st : Stream) (a : AlarmFlags) (g : Segment) :
    Stream.verdict { st with alarms := a } g = st.verdict g := rfl

theorem State.verdict_clearPathDown (s : State) (k : StreamId) (p : Port) (g : Segment) :
    ((s.clearPathDown k p).stream k).verdict g = (s.stream k).verdict g := by
  unfold State.clearPathDown
  split
  · rw [State.stream_clearAlarm, if_pos rfl, Stream.verdict_alarms, State.stream_modStream_same, Stream.verdict_modPath]
  · rfl

theorem State.verdict_tallyPath (s : State) (k : StreamId) (p : Port) (g : Segment) (v : Verdict) :
    ((s.tallyPath k p g v).stream k).verdict g = (s.stream k).verdict g := by
  unfold State.tallyPath
  split
  · rfl
  · rw [State.stream_modStream_same, Stream.verdict_modPath]
  · rw [State.stream_modStream_same, Stream.verdict_modPath, State.verdict_clearPathDown]

theorem Stream.active_of_verdict {st : Stream} {g : Segment} (h : st.verdict g ≠ .outOfState) : st.Active :=
  .inr fun hi => h (by simp [Stream.verdict, hi])

theorem State.streamsMove_reject {s : State} {k : StreamId} (h : (s.stream k).Active) : s.StreamsMove (s.reject k) := by
  unfold State.reject
  split
  · exact State.streamsMove_relock h
  · exact State.streamsMove_modStream (.single (.reject (by omega)))

theorem State.stream_store (s : State) (k : StreamId) (g : Segment) (j : StreamId) :
    (s.store k g).stream j = if j = k then (s.stream k).tagged g else s.stream j :=
  s.stream_modStream k j fun st => { st with tags := insertKey st.tags ((s.stream k).slotOf g.seq) ⟨g.seq, g.origin⟩ }

theorem State.stream_store_modStream (s : State) (k : StreamId) (g : Segment) (f : Stream → Stream) (j : StreamId) :
    ((s.store k g).modStream k f).stream j = if j = k then f ((s.stream k).tagged g) else s.stream j := by
  rw [State.stream_modStream, State.stream_store, State.stream_store, if_pos rfl]
  split <;> rfl

theorem State.streamsMove_conclude {s : State} {k : StreamId} {g : Segment} {v : Verdict}
    (h : (s.stream k).verdict g = v) : s.StreamsMove (s.conclude k g v) := by
  have active (hv : v ≠ .outOfState) : (s.stream k).Active := Stream.active_of_verdict (h ▸ hv)
  cases v
  case outOfState => exact .refl s
  case duplicate => exact .refl s
  case mismatchShape =>
    unfold State.conclude
    dsimp only
    split
    · exact .refl s
    · exact State.streamsMove_reject (active (by decide))
  case mismatchTimeline => exact State.streamsMove_reject (active (by decide))
  case late => exact State.streamsMove_reject (active (by decide))
  case early => exact State.streamsMove_reject (active (by decide))
  case first =>
    refine State.streamsMove_of_stream (k := k) ?_ fun j hj => ?_
    · rw [State.conclude, State.stream_store_modStream, if_pos rfl]
      exact .single (.first g h)
    · rw [State.conclude, State.stream_store_modStream, if_neg hj]
  case accepted =>
    have ha := Stream.Move.accept g h
    unfold State.conclude
    dsimp only
    split
    · rename_i hs
      rw [if_pos hs] at ha
      refine State.streamsMove_of_stream (k := k) ?_ fun j hj => ?_
      · rw [State.stream_clearAlarm, if_pos rfl, State.stream_store_modStream, if_pos rfl]
        exact .single ha
      · rw [State.stream_clearAlarm, if_neg hj, State.stream_store_modStream, if_neg hj]
    · rename_i hs
      rw [if_neg hs] at ha
      refine State.streamsMove_of_stream (k := k) ?_ fun j hj => ?_
      · rw [State.stream_store_modStream, if_pos rfl]
        exact .single ha
      · rw [State.stream_store_modStream, if_neg hj]

theorem State.streamsMove_classify (s : State) (k : StreamId) (p : Port) (g : Segment) :
    s.StreamsMove (s.classify k p g) :=
  (s.streamsMove_tallyPath k p g _).trans (State.streamsMove_conclude (s.verdict_tallyPath k p g _))

/-! ### The timebase -/

theorem State.streamsMove_houseFrame (s : State) (mark : Bool) : s.StreamsMove (s.houseFrame mark) := by
  have frame (b : Bool) : s.StreamsMove (s.mapStreams (Stream.newFrame b)) :=
    State.streamsMove_mapStreams fun _ => .newFrame b
  unfold State.houseFrame
  dsimp only
  split
  · refine .latch ?_ _ _
    split
    · exact .refl s
    · exact (frame _).of_streams rfl
  · split
    · exact .refl s
    · exact (frame _).of_streams rfl

theorem State.streamsMove_lockReference (s : State) (mark : Bool) : s.StreamsMove (s.lockReference mark) := by
  unfold State.lockReference
  refine .latch (.from_streams (State.streamsMove_houseFrame _ mark) ?_) _ _
  rfl

theorem State.streamsMove_edge (s : State) (e : Edge) : s.StreamsMove (s.edge e) := by
  unfold State.edge
  repeat' split
  · exact .refl s
  · exact (State.streamsMove_houseFrame _ _).from_streams rfl
  · exact .refl s
  · exact s.streamsMove_lockReference e.mark
  all_goals exact State.streamsMove_of_eq rfl

theorem State.streamsMove_missedEdge (s : State) : s.StreamsMove s.missedEdge := by
  unfold State.missedEdge
  split
  · exact (s.streamsMove_houseFrame false).of_streams (by simp)
  · exact (s.streamsMove_houseFrame false).of_streams rfl

/-! ### The resets and the agent -/

theorem State.streamsMove_softReset (s : State) : s.StreamsMove s.softReset :=
  (State.streamsMove_mapStreams fun _ => .softReset).of_streams rfl

theorem State.streamsMove_clearReset (s : State) : s.StreamsMove s.clearReset :=
  s.streamsMove_softReset.trans ((State.streamsMove_mapStreams fun _ => .clearReset).of_streams rfl)

theorem State.streamsMove_lineReset (s : State) : s.StreamsMove s.lineReset := fun j => by
  rw [State.stream_lineReset]
  exact .tail (.single .softReset) (.work false false false false)

/-- A record that a WRITE takes lies in its ranges (R17, R192). -/
theorem readStreamRecord_inRange {b : List Byte} {r : StreamRecord} (h : readStreamRecord b = some r) :
    r.inRange = true := by
  unfold readStreamRecord at h
  split at h
  · dsimp only at h
    split at h
    · cases h
      assumption
    · cases h
  · cases h

/-- Each record of a run is read from its own bytes. -/
theorem exists_read_of_mem_readRecords {α : Type} {read : List Byte → Option α} {size n : Nat} {b : List Byte}
    {rs : List α} (h : readRecords read size n b = some rs) {r : α} (hr : r ∈ rs) : ∃ c, read c = some r := by
  induction n generalizing b rs with
  | zero =>
    cases h
    cases hr
  | succ n ih =>
    unfold readRecords at h
    split at h
    · rename_i hread hrest
      cases h
      rcases List.mem_cons.mp hr with rfl | hr
      · exact ⟨_, hread⟩
      · exact ih hrest hr
    · cases h

theorem mem_of_lookup {α β : Type} [BEq α] [LawfulBEq α] {l : List (α × β)} {a : α} {b : β} (h : l.lookup a = some b) :
    (a, b) ∈ l := by
  obtain ⟨l₁, l₂, rfl, -⟩ := List.lookup_eq_some_iff.mp h
  simp

theorem State.stream_storeStreams (s : State) (ws : List (StreamId × StreamRecord)) (j : StreamId) :
    (s.storeStreams ws).stream j = (ws.lookup j).elim (s.stream j) fun w => { s.stream j with record := w } := by
  simp only [State.stream, State.storeStreams, Fin.getElem_fin, Vector.getElem_ofFn]
  cases ws.lookup j <;> rfl

/-- A WRITE of STREAM that is executed changes no structural field of an enabled record (R18). -/
theorem State.not_shapeConflict_of_executed {s : State} {ws : List (StreamId × StreamRecord)}
    (h : (s.streamWriteResult ws).executed = true) : ∀ w ∈ ws, s.shapeConflict w = false := by
  intro w hw
  by_contra hc
  have hany : ws.any s.shapeConflict = true := List.any_eq_true.mpr ⟨w, hw, by simpa using hc⟩
  simp [State.streamWriteResult, hany, Result.executed] at h

theorem State.streamsMove_writeStreams (s : State) (r : Request) : s.StreamsMove (s.writeStreams r) := by
  unfold State.writeStreams
  split
  · exact State.streamsMove_of_eq
  · rename_i rs hrs
    dsimp only
    split
    · rename_i hx
      refine .of_streams (fun j => ?_) (State.answer_frame _ _ _ _).2.2.2.1
      rw [State.stream_storeStreams]
      cases hw : List.lookup j ((namedStreams r.index r.count).zip rs) with
      | none => exact .refl
      | some w =>
        have hmem := mem_of_lookup hw
        obtain ⟨b, hb⟩ := exists_read_of_mem_readRecords hrs (List.of_mem_zip hmem).2
        refine .single (.write w (readStreamRecord_inRange hb) fun he => ?_)
        simpa [State.shapeConflict, he] using State.not_shapeConflict_of_executed hx _ hmem
    · exact State.streamsMove_of_eq

theorem State.streamsMove_doWrite (s : State) (r : Request) (o : ObjectKind) : s.StreamsMove (s.doWrite r o) := by
  cases o
  case stream => exact s.streamsMove_writeStreams r
  all_goals exact State.streamsMove_of_eq (by simp [State.doWrite])

theorem State.streamsMove_relockAll (s : State) (ks : List StreamId) : s.StreamsMove (s.relockAll ks) := by
  unfold State.relockAll
  induction ks generalizing s with
  | nil => exact .refl s
  | cons k ks ih =>
    rw [List.foldl_cons]
    refine .trans ?_ (ih _)
    split
    · rename_i he
      exact State.streamsMove_relock (.inl he)
    · exact .refl s

theorem PathContext.RangeSound.zeroIntervals {c : PathContext} (h : c.RangeSound) : c.zeroIntervals.RangeSound :=
  ⟨h.blocks, Nat.zero_le _, Nat.zero_le _⟩

theorem State.streamsMove_zeroed (s : State) (o : ObjectKind) (index count : Nat) :
    s.StreamsMove (s.zeroed o index count) := by
  cases o
  case pathCounters =>
    refine State.streamsMove_modStreams fun st => ?_
    exact .tail (.single (.path .a PathContext.zeroCounters fun h => h.congr rfl rfl rfl))
      (.path .b PathContext.zeroCounters fun h => h.congr rfl rfl rfl)
  case monitors =>
    refine State.streamsMove_modStreams fun st => ?_
    exact .tail (.tail (.single (.path .a PathContext.zeroIntervals fun h => h.zeroIntervals))
      (.path .b PathContext.zeroIntervals fun h => h.zeroIntervals)) .collectMonitors
  all_goals exact State.streamsMove_of_eq rfl

/-- What a command does to the streams: moves, or an ENABLE of named streams that its own checks accept (R25). -/
inductive StreamsEffect (s t : State) : Prop where
  | moved (h : s.StreamsMove t)
  | enabled (ks : List StreamId) (accepted : (s.enableResult ks).executed = true)
      (h : t.streams = (s.modStreams ks fun st => st.enable st.record.shape.figures).streams)

theorem State.streamsEffect_execute (s : State) (r : Request) (k : RequestKind) : StreamsEffect s (s.execute r k) := by
  cases k
  case read =>
    unfold State.execute
    dsimp only
    split <;> exact .moved State.streamsMove_of_eq
  case write =>
    unfold State.execute
    dsimp only
    split
    · exact .moved (s.streamsMove_doWrite r _)
    · exact .moved State.streamsMove_of_eq
  case enable =>
    unfold State.execute State.doEnable
    dsimp only
    split
    · exact .enabled _ (by assumption) (by simp)
    · exact .moved State.streamsMove_of_eq
  case disable =>
    refine .moved (State.StreamsMove.of_streams (State.streamsMove_modStreams fun st => ?_) (State.answer_frame ..).2.2.2.1)
    split
    · exact .single .disable
    · exact .refl
  case relock => exact .moved ((s.streamsMove_relockAll _).of_streams (State.answer_frame ..).2.2.2.1)
  case collect =>
    unfold State.execute
    dsimp only
    split
    · exact .moved ((s.streamsMove_zeroed _ _ _).of_streams (State.answer_frame ..).2.2.2.1)
    · exact .moved State.streamsMove_of_eq
  case reset =>
    unfold State.execute State.doReset
    dsimp only
    split
    · exact .moved ((State.streamsMove_clearReset _).from_streams (by simp))
    · exact .moved ((State.streamsMove_softReset _).from_streams (by simp))
  all_goals exact .moved (State.streamsMove_of_eq (by simp [State.execute]))

theorem State.overlapsEnabled_congr {s t : State} (h : t.streams = s.streams) (before : List StreamId) (k : StreamId) :
    t.overlapsEnabled before k = s.overlapsEnabled before k := by
  simp only [State.overlapsEnabled, State.stream_congr h]

theorem State.anyOverlap_congr {s t : State} (h : t.streams = s.streams) (before ks : List StreamId) :
    t.anyOverlap before ks = s.anyOverlap before ks := by
  induction ks generalizing before with
  | nil => rfl
  | cons k ks ih => simp only [State.anyOverlap, State.overlapsEnabled_congr h, ih]

/-- The outcome of an ENABLE reads the table of streams alone. -/
theorem State.enableResult_congr {s t : State} (h : t.streams = s.streams) (ks : List StreamId) :
    t.enableResult ks = s.enableResult ks := by
  simp only [State.enableResult, State.stream_congr h, State.anyOverlap_congr h]

/-- An event that leaves the streams, and then an effect on them. -/
theorem StreamsEffect.from_streams {s t u : State} (h : StreamsEffect t u) (ht : t.streams = s.streams) :
    StreamsEffect s u := by
  cases h with
  | moved h => exact .moved (h.from_streams ht)
  | enabled ks accepted h =>
    refine .enabled ks (State.enableResult_congr ht ks ▸ accepted) (h.trans ?_)
    simp only [State.modStreams, ht]

theorem State.streamsEffect_handle (s : State) (r : Request) : StreamsEffect s (s.handle r) := by
  unfold State.handle
  split
  · split
    · exact .moved State.streamsMove_of_eq
    · unfold State.decideRequest
      split
      · exact .moved State.streamsMove_of_eq
      · exact (State.streamsEffect_execute _ r _).from_streams (by simp)
  · exact .moved (.refl s)

theorem State.streamsEffect_receive (s : State) (p : Port) (f : RxFrame) : StreamsEffect s (s.receive p f) := by
  unfold State.receive
  refine StreamsEffect.from_streams (t := s.countPort p fun c => c.count (s.judgeFrame p f)) ?_ (by simp)
  cases s.judgeFrame p f
  case segment k g => exact .moved (State.streamsMove_classify _ k p g)
  case request r => exact State.streamsEffect_handle _ r
  all_goals exact .moved (.refl _)

/-- Every command's effect on the streams is one of these. -/
theorem Effect.streamsEffect {s t : State} (h : Effect s t) : StreamsEffect s t := by
  cases h with
  | powerOn =>
    refine .moved fun j => ?_
    rw [State.stream_powerOn]
    exact .single .powerOn
  | lineReset => exact .moved s.streamsMove_lineReset
  | receive p f => exact s.streamsEffect_receive p f
  | classify k p g => exact .moved (s.streamsMove_classify k p g)
  | edge e => exact .moved (s.streamsMove_edge e)
  | missedEdge => exact .moved s.streamsMove_missedEdge
  | houseFrame => exact .moved (s.streamsMove_houseFrame false)
  | copyTuning => exact .moved ((State.streamsMove_mapStreams fun _ => .copyTuning).of_streams rfl)
  | playout k => exact .moved (s.streamsMove_playoutWork k)
  | servo k => exact .moved (s.streamsMove_servoWork k)
  | monitor k h =>
    simp only [State.monitorArises, Bool.and_eq_true] at h
    exact .moved (State.streamsMove_monitorWork (.inl h.2))
  | request r => exact s.streamsEffect_handle r
  | _ => exact .moved (State.streamsMove_of_eq (by simp))

end Sys2Proof.Machine
end

section
/-! State, lock, alarms and tags of every stream, along every step (R36, R44, R47, R48, R81, R87, R162). -/

namespace Sys2Proof.Machine

/-! ### What the two invariants read -/

/-- A stream's lock is sound by these seven fields alone. -/
theorem Stream.LockSound.congr {st st' : Stream} (h : st.LockSound) (he : st'.enabled = st.enabled := by rfl)
    (hs : st'.state = st.state := by rfl) (ha : st'.alarms = st.alarms := by rfl) (hn : st'.anchor = st.anchor := by rfl)
    (ht : st'.tags = st.tags := by rfl) (hr : st'.rejectRun = st.rejectRun := by rfl)
    (hd : st'.slipDue = st.slipDue := by rfl) : st'.LockSound where
  idle := by rw [he, hs]; exact h.idle
  starved := by rw [ha, hs]; exact h.starved
  anchor := by rw [hn, hs]; exact h.anchor
  emptied := by rw [hn, ht]; exact h.emptied
  alarms := by rw [hs, ha]; exact h.alarms
  rejectRun := hr ▸ h.rejectRun
  slip := by rw [hd, hs]; exact h.slip

/-- A stream's tags are sound by its tags, anchor, figures and segment length alone. -/
theorem Stream.TagSound.congr {st st' : Stream} (h : st.TagSound) (ht : st'.tags = st.tags := by rfl)
    (hn : st'.anchor = st.anchor := by rfl) (hf : st'.figures = st.figures := by rfl)
    (hl : st'.record.shape.segLen = st.record.shape.segLen := by rfl) : st'.TagSound where
  rise := ht ▸ h.rise
  placed i g hg := by
    have := h.placed i g (ht ▸ hg)
    unfold Stream.TagAt Stream.fig at this ⊢
    rw [hf, hn, hl]
    exact this

theorem Stream.TagSound.of_tags_nil {st : Stream} (h : st.tags = []) : st.TagSound :=
  ⟨h ▸ rfl, fun i g hg => by rw [h] at hg; cases hg⟩

theorem Stream.LockSound.not_idle {st : Stream} (h : st.LockSound) (ha : st.Active) : st.state ≠ .idle := by
  rcases ha with he | hs
  · intro hi
    rw [h.idle.mp hi] at he
    cases he
  · exact hs

theorem Stream.LockSound.enabled {st : Stream} (h : st.LockSound) (ha : st.Active) : st.enabled = true := by
  by_contra he
  exact h.not_idle ha (h.idle.mpr (by simpa using he))

/-! ### Verdicts of segments that are stored -/

/-- Only a stream in ACQUIRE takes a first segment, and only of its record's shape (R29, R31). -/
theorem Stream.of_verdict_first {st : Stream} {g : Segment} (h : st.verdict g = .first) :
    st.state = .acquire ∧ st.Fits g := by
  have judged (q : Seq) (t : Origin) : st.judge q t ≠ .first := by
    unfold Stream.judge
    repeat' split
    all_goals decide
  unfold Stream.verdict at h
  split at h
  case h_1 => cases h
  case h_2 hs =>
    split at h
    · exact ⟨hs, by assumption⟩
    · cases h
  all_goals
    split at h
    · exact absurd h (judged _ _)
    · cases h

/-- A later segment is taken in FILLING, PLAYING and HOLDOVER, of the record's shape and on the timeline (R32, R35). -/
theorem Stream.of_verdict_accepted {st : Stream} {g : Segment} (h : st.verdict g = .accepted) :
    st.Locked ∧ st.Fits g ∧ st.onTimeline g.seq g.origin = true := by
  have judged (hj : st.judge g.seq g.origin = .accepted) : st.onTimeline g.seq g.origin = true := by
    by_contra hn
    rw [Stream.judge, if_pos (by simpa using hn)] at hj
    cases hj
  unfold Stream.verdict at h
  split at h
  case h_1 => cases h
  case h_2 => split at h <;> cases h
  case h_3 hs =>
    split at h
    · exact ⟨.inl hs, by assumption, judged h⟩
    · cases h
  case h_4 hs =>
    split at h
    · exact ⟨.inr (.inl hs), by assumption, judged h⟩
    · cases h
  case h_5 hs =>
    split at h
    · exact ⟨.inr (.inr hs), by assumption, judged h⟩
    · cases h

/-! ### State, lock and alarms -/

theorem Stream.LockSound.unlocked {st : Stream} (h : st.LockSound) (ha : st.Active) : st.unlocked.LockSound where
  idle := by simp [Stream.unlocked, Stream.relocked, h.enabled ha]
  starved := by simp [Stream.unlocked, Stream.relocked, AlarmFlags.set]
  anchor := by simp [Stream.unlocked, Stream.relocked]
  emptied _ := rfl
  alarms hs := by cases hs
  rejectRun := by simp [Stream.unlocked, Stream.relocked]
  slip hs := absurd rfl hs

/-- A move of the boundary stage keeps the lock sound, but for a slip due, which the frame stage that follows clears. -/
theorem Stream.BoundaryMove.lockSound {st st' : Stream} (h : st.BoundaryMove st') (hl : st.LockSound) :
    Stream.LockSound { st' with slipDue := .none } := by
  have cleared {u : Stream} (hu : u.LockSound) : Stream.LockSound { u with slipDue := .none } :=
    ⟨hu.idle, hu.starved, hu.anchor, hu.emptied, hu.alarms, hu.rejectRun, fun hs => absurd rfl hs⟩
  cases h with
  | none => exact cleared hl
  | quiet => exact cleared hl.congr
  | holdover => exact cleared hl.congr
  | relock hs => exact cleared (hl.unlocked (.inr (by simp [hs])))
  | starve hs =>
    have he := hl.enabled (.inr (by simp [hs]))
    have hn : st.anchor ≠ Option.none := fun hn => by
      rcases hl.anchor.mp hn with h | h <;> rw [hs] at h <;> cases h
    exact ⟨by simp [he], by simp [AlarmFlags.set], by simp [hn], fun h => absurd h hn,
      fun h => (by cases h), hl.rejectRun, fun hs => absurd rfl hs⟩

theorem Stream.LockSound.afterStage {st : Stream} (h : Stream.LockSound { st with slipDue := .none }) (o : StageOutput) :
    (st.afterStage o).LockSound := by
  unfold Stream.afterStage
  split
  · rename_i hr
    have hs : st.state = .filling := by
      simp only [Stream.reachesFillStart, Bool.and_eq_true, decide_eq_true_eq] at hr
      exact hr.1
    have h1 := h.idle
    have h2 := h.starved
    have h3 := h.anchor
    simp only [hs, reduceCtorEq, false_iff, iff_false, or_self] at h1 h2 h3
    exact ⟨by simpa [Stream.enterPlaying, Stream.staged] using h1, by simpa [Stream.enterPlaying, Stream.staged] using h2,
      by simpa [Stream.enterPlaying, Stream.staged] using h3, h.emptied, fun h => (by cases h), h.rejectRun,
      fun _ => rfl⟩
  · exact h.congr

theorem Stream.LockSound.alarm {st : Stream} (h : st.LockSound) {a : StreamAlarm} {v : Bool} (ha : a ≠ .starved)
    (hv : v = true → st.Active) : Stream.LockSound { st with alarms := st.alarms.set a v } where
  idle := h.idle
  starved := by
    have := AlarmFlags.get_set_other st.alarms v ha.symm
    simp only [AlarmFlags.get] at this
    rw [this]
    exact h.starved
  anchor := h.anchor
  emptied := h.emptied
  alarms hs := by
    cases v with
    | true => exact absurd hs (h.not_idle (hv rfl))
    | false =>
      rw [h.alarms hs]
      cases a <;> rfl
  rejectRun := h.rejectRun
  slip := h.slip

theorem Stream.LockSound.softReset {st : Stream} : st.softReset.LockSound := by
  constructor <;> cases he : st.enabled <;> simp [Stream.softReset, AlarmFlags.none, he]

theorem Stream.LockSound.first {st : Stream} (h : st.LockSound) {g : Segment} (hs : st.state = .acquire) :
    ((st.tagged g).startLock g).LockSound := by
  have he := h.enabled (.inr (by simp [hs]))
  have ha : st.alarms.starved = false := by
    by_contra hn
    rw [h.starved.mp (by simpa using hn)] at hs
    cases hs
  constructor <;> simp [Stream.startLock, Stream.captureMargin, Stream.tagged, he, ha]

theorem Stream.LockSound.accept {st : Stream} (h : st.LockSound) {g : Segment} (hs : st.Locked) :
    Stream.LockSound { (st.tagged g).accept g with
      alarms := if st.state = .holdover then st.alarms.set .starved false else st.alarms } := by
  have he := h.enabled (.inr (by rcases hs with hs | hs | hs <;> simp [hs]))
  have hst := h.starved
  have hd := h.slip
  rcases hs with hs | hs | hs <;> rw [hs] at hst hd
  · constructor <;> simp_all [Stream.accept, Stream.captureMargin, Stream.tagged]
  · constructor <;> simp_all [Stream.accept, Stream.captureMargin, Stream.tagged]
  · constructor <;> simp_all [Stream.accept, Stream.captureMargin, Stream.tagged, AlarmFlags.set]

theorem Stream.Move.lockSound {st st' : Stream} (h : st.Move st') (hl : st.LockSound) : st'.LockSound := by
  cases h with
  | powerOn => exact Stream.powerOn_lockSound
  | softReset => exact .softReset
  | clearReset => exact .softReset
  | alarm a v ha hv => exact hl.alarm ha hv
  | relock ha => exact hl.unlocked ha
  | reject hr => exact ⟨hl.idle, hl.starved, hl.anchor, hl.emptied, hl.alarms, hr, hl.slip⟩
  | first g hv => exact hl.first (Stream.of_verdict_first hv).1
  | accept g hv => exact hl.accept (Stream.of_verdict_accepted hv).1
  | stage o hb => exact .afterStage (hb.lockSound hl) o
  | servoStep hs => exact ⟨hl.idle, hl.starved, hl.anchor, hl.emptied, hl.alarms, hl.rejectRun, fun _ => hs⟩
  | disable => constructor <;> simp [Stream.disable, AlarmFlags.none, hl.rejectRun]
  | path p f => cases p <;> exact hl.congr
  | _ => exact hl.congr

/-- An accepted ENABLE of a disabled stream (R25, R67). -/
theorem Stream.LockSound.enable {st : Stream} (h : st.LockSound) (he : st.enabled = false) (f : Figures) :
    (st.enable f).LockSound := by
  have ha := h.alarms (h.idle.mpr he)
  constructor <;> simp [Stream.enable, ha, AlarmFlags.none]

/-! ### Tags -/

/-- The one tag of a stream that has taken its first segment is its anchor (R31, R45). -/
theorem Stream.TagSound.first {st : Stream} (hl : st.LockSound) {g : Segment} (hs : st.state = .acquire) :
    ((st.tagged g).startLock g).TagSound := by
  have ht : st.tags = [] := hl.emptied (hl.anchor.mpr (.inr hs))
  refine ⟨?_, fun i x hx => ?_⟩
  · simp [Stream.startLock, Stream.captureMargin, Stream.tagged, ht, insertKey, keysRise]
  · simp only [Stream.startLock, Stream.captureMargin, Stream.tagged, ht, insertKey, List.mem_singleton,
      Prod.mk.injEq] at hx
    obtain ⟨rfl, rfl⟩ := hx
    exact ⟨rfl, _, rfl, 0, by simp, by simp⟩

/-- An offset from one value is the offset less their signed difference from another. -/
theorem add_ofInt_eq_add_ofInt_sub {w : Nat} (a b : BitVec w) (n : Int) :
    a + BitVec.ofInt w n = b + BitVec.ofInt w (n - (b - a).toInt) := by
  have h : BitVec.ofInt w n = BitVec.ofInt w (n - (b - a).toInt) + (b - a) :=
    calc BitVec.ofInt w n = BitVec.ofInt w (n - (b - a).toInt + (b - a).toInt) := by rw [sub_add_cancel]
      _ = _ := by rw [BitVec.ofInt_add, BitVec.ofInt_toInt]
  rw [h]
  ring

/-- The tags held lie on the timeline of the new anchor, which lies on theirs (R32, R44). -/
theorem Stream.TagSound.accept {st : Stream} (h : st.TagSound) {g : Segment} (ht : st.onTimeline g.seq g.origin = true)
    (a : AlarmFlags) : Stream.TagSound { (st.tagged g).accept g with alarms := a } := by
  refine ⟨keysRise_insertKey h.rise _ _, fun i x hx => ?_⟩
  rcases mem_insertKey hx with hx | hx
  · obtain ⟨rfl, rfl⟩ := Prod.mk.inj hx
    exact ⟨rfl, _, rfl, 0, by simp, by simp⟩
  · obtain ⟨hi, b, hb, n, hq, ho⟩ := h.placed i x hx
    refine ⟨hi, _, rfl, n - seqDiff g.seq b.seq, ?_, ?_⟩
    · rw [hq]
      exact add_ofInt_eq_add_ofInt_sub _ _ _
    · simp only [Stream.onTimeline, hb, decide_eq_true_eq] at ht
      rw [ho, add_ofInt_eq_add_ofInt_sub b.origin g.origin]
      change _ = g.origin + BitVec.ofInt 32 ((n - seqDiff g.seq b.seq) * st.record.shape.segLen)
      rw [sub_mul, ← ht]
      rfl

theorem Stream.Move.tagSound {st st' : Stream} (h : st.Move st') (hl : st.LockSound) (ht : st.TagSound) :
    st'.TagSound := by
  cases h with
  | powerOn => exact Stream.powerOn_tagSound
  | softReset => exact .of_tags_nil rfl
  | clearReset => exact .of_tags_nil rfl
  | relock => exact .of_tags_nil rfl
  | disable => exact .of_tags_nil rfl
  | first g hv => exact .first hl (Stream.of_verdict_first hv).1
  | accept g hv => exact ht.accept (Stream.of_verdict_accepted hv).2.2 _
  | stage o hb =>
    unfold Stream.afterStage
    cases hb with
    | relock => split <;> exact .of_tags_nil rfl
    | _ => split <;> exact ht.congr
  | write r _ hs =>
    by_cases he : st.enabled = true
    · exact ht.congr rfl rfl rfl (by rw [hs he])
    · exact .of_tags_nil (hl.emptied (hl.anchor.mpr (.inl (hl.idle.mpr (by simpa using he)))))
  | path p f => cases p <;> exact ht.congr
  | _ => exact ht.congr

/-! ### Every step -/

/-- What every move keeps, any number of moves keeps. -/
theorem Stream.Moves.keeps {P : Stream → Prop} (hP : ∀ st st', st.Move st' → P st → P st') {st st' : Stream}
    (h : st.Moves st') (hs : P st) : P st' := by
  induction h with
  | refl => exact hs
  | tail _ hm ih => exact hP _ _ hm ih

/-- An accepted ENABLE names disabled streams alone (R25). -/
theorem State.disabled_of_enableResult {s : State} {ks : List StreamId} (h : (s.enableResult ks).executed = true)
    {k : StreamId} (hk : k ∈ ks) : (s.stream k).enabled = false := by
  by_contra he
  have hany : (ks.any fun k => (s.stream k).enabled) = true := List.any_eq_true.mpr ⟨k, hk, by simpa using he⟩
  simp [State.enableResult, hany, Result.executed] at h

/-- What every move keeps, and the ENABLE of a disabled stream too, every effect of a command keeps in every stream. -/
theorem StreamsEffect.keeps {P : Stream → Prop} (hP : ∀ st st', st.Move st' → P st → P st')
    (hE : ∀ st : Stream, st.enabled = false → P st → P (st.enable st.record.shape.figures)) {s t : State}
    (h : StreamsEffect s t) (hs : ∀ k, P (s.stream k)) (k : StreamId) : P (t.stream k) := by
  cases h with
  | moved h => exact (h k).keeps hP (hs k)
  | enabled ks accepted h =>
    rw [State.stream_congr h, State.stream_modStreams]
    split
    · rename_i hk
      exact hE _ (State.disabled_of_enableResult accepted hk) (hs k)
    · exact hs k

/-- The same, along every step. -/
theorem step_keeps_streams {P : Stream → Prop} (hP : ∀ st st', st.Move st' → P st → P st')
    (hE : ∀ st : Stream, st.enabled = false → P st → P (st.enable st.record.shape.figures)) {s t : State}
    (h : step s = .next t) (hs : ∀ k, P (s.stream k)) : ∀ k, P (t.stream k) :=
  step_keeps (P := fun s => ∀ k, P (s.stream k)) (fun _ _ hs => hs) (fun _ _ he hs => he.streamsEffect.keeps hP hE hs) h hs

/-- Settles O8: every move, and an accepted ENABLE, keeps lock and tags of its stream sound together. -/
theorem stepKeepsLocksAndTags : Obligations.StepKeepsLocksAndTags := fun _ _ hl ht h =>
  have hk := step_keeps_streams (P := fun st => st.LockSound ∧ st.TagSound)
    (fun _ _ hm ⟨hl, ht⟩ => ⟨hm.lockSound hl, hm.tagSound hl ht⟩)
    (fun _ he ⟨hl, _⟩ => ⟨hl.enable he _, .of_tags_nil rfl⟩) h fun k => ⟨hl k, ht k⟩
  ⟨fun k => (hk k).1, fun k => (hk k).2⟩

end Sys2Proof.Machine
end

section
/-! The quantities of every stream in their ranges, along every step (R17, R84, R85, R91 to R96, R147, R150 to R155). -/

namespace Sys2Proof.Machine

/-! ### What the ranges read -/

/-- A stream's quantities lie in their ranges by its tunings, servo, counts, captures and paths alone. -/
theorem Stream.RangeSound.congr {st st' : Stream} (h : st.RangeSound)
    (ht : st'.record.tuning = st.record.tuning := by rfl) (hf : st'.inForce = st.inForce := by rfl)
    (hc : st'.closing = st.closing := by rfl) (hs : st'.servo = st.servo := by rfl) (hq : st'.quiet = st.quiet := by rfl)
    (hh : st'.holdover = st.holdover := by rfl) (hm : st'.tightest = st.tightest := by rfl)
    (hp : st'.blockPeak = st.blockPeak := by rfl) (hr : st'.silentRun = st.silentRun := by rfl)
    (ha : st'.pathA = st.pathA := by rfl) (hb : st'.pathB = st.pathB := by rfl) : st'.RangeSound := by
  obtain ⟨tuning, inForce, closing, smoothed, rate, accumulator, lead, error, unclamped, quiet, holdover, tightest, peak,
    silent, pathA, pathB⟩ := h
  constructor <;> simp only [ht, hf, hc, hs, hq, hh, hm, hp, hr, ha, hb] <;> assumption

/-- The servo's values lie in their ranges (R91 to R93, R96). -/
structure Servo.InRange (v : Servo) : Prop where
  smoothed : -1048576 ≤ v.s ∧ v.s ≤ 1048575
  rate : v.r ≤ 4096
  accumulator : v.q ≤ 65535
  lead : -32768 ≤ v.lead ∧ v.lead ≤ 32767
  error : -32767 ≤ v.error ∧ v.error ≤ 32767
  unclamped : v.unclamped ≤ 983040

theorem Stream.RangeSound.servoInRange {st : Stream} (h : st.RangeSound) : st.servo.InRange :=
  ⟨h.smoothed, h.rate, h.accumulator, h.lead, h.error, h.unclamped⟩

theorem Servo.zero_inRange : Servo.zero.InRange := by
  constructor <;> decide

/-- A stream whose servo takes other values in range. -/
theorem Stream.RangeSound.withServo {st : Stream} (h : st.RangeSound) {v : Servo} (hv : v.InRange) :
    Stream.RangeSound { st with servo := v } :=
  { h with
    smoothed := hv.smoothed, rate := hv.rate, accumulator := hv.accumulator, lead := hv.lead, error := hv.error
    unclamped := hv.unclamped }

theorem Tuning.gain_le {t : Tuning} (h : t.inRange = true) : t.gain ≤ 15 := by
  simp only [Tuning.inRange, Bool.and_eq_true, decide_eq_true_eq] at h
  omega

/-- The unclamped rate of a smoothed error in range, with a gain of at most 15 (R93). -/
theorem unclampedRate_le {t : Tuning} (ht : t.inRange = true) {s : Int} (h : -1048576 ≤ s ∧ s ≤ 1048575) :
    unclampedRate t s ≤ 983040 := by
  unfold unclampedRate
  split
  · have hs : s.natAbs ≤ 1048576 := by omega
    calc s.natAbs * t.gain / 16 ≤ 1048576 * 15 / 16 := Nat.div_le_div_right (Nat.mul_le_mul hs (Tuning.gain_le ht))
      _ = 983040 := by decide
  · exact Nat.zero_le _

/-- A servo step keeps the values in range (R91 to R96). -/
theorem Servo.InRange.step {v : Servo} (h : v.InRange) {t : Tuning} (ht : t.inRange = true) {lead error : Int}
    (hl : -32768 ≤ lead ∧ lead ≤ 32767) (he : -32767 ≤ error ∧ error ≤ 32767) : (v.step t lead error).InRange := by
  have hs : -1048576 ≤ Machine.smoothed v.s error ∧ Machine.smoothed v.s error ≤ 1048575 := clamp_bounds (by decide) _
  have hr : min (unclampedRate t (Machine.smoothed v.s error)) t.effRmax ≤ 4096 :=
    (Nat.min_le_right _ _).trans (Nat.min_le_right _ _)
  have hq := h.accumulator
  refine ⟨hs, hr, ?_, hl, he, unclampedRate_le ht hs⟩
  unfold Servo.step
  dsimp only
  split <;> omega

theorem Stream.RangeSound.stepped_inRange {st : Stream} (h : st.RangeSound) : st.stepped.InRange :=
  h.servoInRange.step h.closing (clamp_bounds (by decide) _) (clamp_bounds (by decide) _)

/-- The margin of a segment keeps the tightest margin in range (R152). -/
theorem Stream.RangeSound.captureMargin {st : Stream} (h : st.RangeSound) (margin : Int) :
    (st.captureMargin margin).RangeSound := by
  have hc := clamp_bounds (lo := -32768) (hi := 32767) (by decide) margin
  have ht := h.tightest
  refine { h with tightest := ?_ }
  show -32768 ≤ min st.tightest (clamp (-32768) 32767 margin) ∧ min st.tightest (clamp (-32768) 32767 margin) ≤ 32767
  omega

/-! ### The moves -/

theorem Stream.quietAdvanced_le (st : Stream) : st.quietAdvanced ≤ 65535 := Nat.min_le_right _ _

theorem Stream.holdoverAdvanced_le (st : Stream) : st.holdoverAdvanced ≤ 65535 := Nat.min_le_right _ _

theorem Stream.RangeSound.unlocked {st : Stream} (h : st.RangeSound) : st.unlocked.RangeSound :=
  { h.withServo Servo.zero_inRange with quiet := Nat.zero_le _, holdover := Nat.zero_le _ }

theorem Stream.BoundaryMove.rangeSound {st st' : Stream} (h : st.BoundaryMove st') (hr : st.RangeSound) :
    st'.RangeSound := by
  cases h with
  | none => exact hr
  | quiet => exact { hr with quiet := st.quietAdvanced_le }
  | starve => exact { hr with quiet := st.quietAdvanced_le, holdover := Nat.zero_le _ }
  | holdover => exact { hr with quiet := st.quietAdvanced_le, holdover := st.holdoverAdvanced_le }
  | relock => exact hr.unlocked

theorem Stream.RangeSound.afterStage {st : Stream} (h : st.RangeSound) (o : StageOutput) :
    (st.afterStage o).RangeSound := by
  have hs : (st.staged o).RangeSound := h.congr
  unfold Stream.afterStage
  split
  · exact { hs.withServo Servo.zero_inRange with quiet := Nat.zero_le _, holdover := Nat.zero_le _ }
  · exact hs

/-- The tightest margin that a reset and a COLLECT leave (R159, R160). -/
theorem resetMargin_inRange : (-32768 : Int) ≤ 32767 ∧ (32767 : Int) ≤ 32767 := by decide

theorem Stream.RangeSound.softReset {st : Stream} (h : st.RangeSound) : st.softReset.RangeSound :=
  { h.withServo Servo.zero_inRange with
    quiet := Nat.zero_le _, holdover := Nat.zero_le _, tightest := resetMargin_inRange
    peak := fun _ hv => by cases hv
    silent := Nat.zero_le _
    pathA := ⟨Nat.zero_le _, Nat.zero_le _, Nat.zero_le _⟩, pathB := ⟨Nat.zero_le _, Nat.zero_le _, Nat.zero_le _⟩ }

theorem Tuning.default_inRange : Tuning.default.inRange = true := by decide

theorem Stream.Move.rangeSound {st st' : Stream} (h : st.Move st') (hr : st.RangeSound) : st'.RangeSound := by
  cases h with
  | powerOn => exact Stream.powerOn_rangeSound
  | softReset => exact hr.softReset
  | clearReset =>
    exact Stream.RangeSound.softReset { hr with tuning := Tuning.default_inRange, inForce := Tuning.default_inRange }
  | newFrame b =>
    refine { hr with closing := ?_ }
    cases b
    · exact hr.closing
    · exact hr.inForce
  | copyTuning => exact { hr with inForce := hr.tuning }
  | path p f hf =>
    cases p
    · exact { hr with pathA := hf hr.pathA }
    · exact { hr with pathB := hf hr.pathB }
  | relock => exact hr.unlocked
  | first g =>
    refine Stream.RangeSound.captureMargin ?_ _
    exact { hr with quiet := Nat.zero_le _, holdover := Nat.zero_le _ }
  | accept g =>
    refine Stream.RangeSound.congr (st := (st.tagged g).accept g) ?_
    refine Stream.RangeSound.captureMargin ?_ _
    exact { hr with quiet := Nat.zero_le _ }
  | stage o hb => exact (hb.rangeSound hr).afterStage o
  | detector peak run _ _ hp hn => exact { hr with peak := hp hr.peak, silent := hn hr.silent }
  | servoStep => exact (hr.withServo hr.stepped_inRange).congr
  | write r hw =>
    simp only [StreamRecord.inRange, Bool.and_eq_true] at hw
    exact { hr with tuning := hw.2 }
  | disable =>
    exact { hr with
      quiet := Nat.zero_le _, holdover := Nat.zero_le _, peak := fun _ hv => by cases hv
      silent := Nat.zero_le _
      pathA := hr.pathA.congr rfl rfl rfl, pathB := hr.pathB.congr rfl rfl rfl }
  | collectMonitors => exact { hr with tightest := resetMargin_inRange }
  | _ => exact hr.congr

theorem Stream.RangeSound.enable {st : Stream} (h : st.RangeSound) (f : Figures) : (st.enable f).RangeSound :=
  { h.withServo Servo.zero_inRange with
    inForce := h.tuning, quiet := Nat.zero_le _, holdover := Nat.zero_le _
    peak := fun _ hv => by cases hv
    silent := Nat.zero_le _
    pathA := ⟨Nat.zero_le _, h.pathA.last, h.pathA.largest⟩, pathB := ⟨Nat.zero_le _, h.pathB.last, h.pathB.largest⟩ }

/-- Settles O9: every move, and an accepted ENABLE, keeps the quantities of its stream in range. -/
theorem stepKeepsStreamQuantitiesInRange : Obligations.StepKeepsStreamQuantitiesInRange := fun _ _ hr h =>
  step_keeps_streams (fun _ _ hm => hm.rangeSound) (fun _ _ hr => hr.enable _) h hr

end Sys2Proof.Machine
end

section
/-! The stream table and the cover table, along every step (R17, R18, R22 to R25, R113, R114). -/

namespace Sys2Proof.Machine

/-! ### The moves of one stream -/

/-- A record in range stays in range, and a stream that is enabled afterwards was enabled before, with the same shape, figures
and channel count. -/
structure Stream.KeepsEntry (st st' : Stream) : Prop where
  ranges : st.record.shape.inRange = true → st'.record.shape.inRange = true
  entry : st'.enabled = true → st.enabled = true ∧ st'.record.shape = st.record.shape ∧ st'.figures = st.figures
    ∧ st'.channels = st.channels

theorem Stream.KeepsEntry.of_eq {st st' : Stream} (he : st'.enabled = st.enabled := by rfl)
    (hs : st'.record.shape = st.record.shape := by rfl) (hf : st'.figures = st.figures := by rfl)
    (hc : st'.channels = st.channels := by rfl) : st.KeepsEntry st' :=
  ⟨fun h => hs ▸ h, fun h => ⟨he ▸ h, hs, hf, hc⟩⟩

theorem Stream.KeepsEntry.of_disabled {st st' : Stream} (he : st'.enabled = false)
    (hs : st.record.shape.inRange = true → st'.record.shape.inRange = true) : st.KeepsEntry st' :=
  ⟨hs, fun h => by rw [he] at h; cases h⟩

theorem Stream.KeepsEntry.trans {st st' st'' : Stream} (h : st.KeepsEntry st') (h' : st'.KeepsEntry st'') :
    st.KeepsEntry st'' where
  ranges := h'.ranges ∘ h.ranges
  entry he := by
    obtain ⟨he', hs', hf', hc'⟩ := h'.entry he
    obtain ⟨he, hs, hf, hc⟩ := h.entry he'
    exact ⟨he, hs'.trans hs, hf'.trans hf, hc'.trans hc⟩

theorem Shape.default_inRange : Shape.default.inRange = true := by decide

theorem Stream.Move.keepsEntry {st st' : Stream} (h : st.Move st') : st.KeepsEntry st' := by
  cases h with
  | powerOn => exact .of_disabled rfl fun _ => Shape.default_inRange
  | clearReset => exact .of_disabled rfl fun _ => Shape.default_inRange
  | disable => exact .of_disabled rfl id
  | softReset => exact ⟨id, fun he => ⟨he, rfl, if_pos he, rfl⟩⟩
  | path p f => cases p <;> exact .of_eq
  | stage o hb => unfold Stream.afterStage; split <;> cases hb <;> exact .of_eq
  | write r hr hs =>
    simp only [StreamRecord.inRange, Bool.and_eq_true] at hr
    exact ⟨fun _ => hr.1, fun he => ⟨he, hs he, rfl, rfl⟩⟩
  | _ => exact .of_eq

theorem Stream.Moves.keepsEntry {st st' : Stream} (h : st.Moves st') : st.KeepsEntry st' :=
  h.keeps (P := st.KeepsEntry) (fun _ _ hm hk => hk.trans hm.keepsEntry) .of_eq

/-! ### ENABLE -/

theorem Shape.overlaps_comm (a b : Shape) : a.overlaps b = b.overlaps a := Bool.and_comm _ _

/-- No named stream has a page in common with a stream enabled, with one of those given, or with one named before it. -/
theorem State.anyOverlap_eq_false_iff (s : State) (before ks : List StreamId) :
    s.anyOverlap before ks = false ↔
      (∀ k ∈ ks, ∀ j, (s.stream j).enabled = true ∨ j ∈ before →
        (s.stream j).record.shape.overlaps (s.stream k).record.shape = false)
      ∧ ks.Pairwise fun j k => (s.stream j).record.shape.overlaps (s.stream k).record.shape = false := by
  induction ks generalizing before with
  | nil => simp [State.anyOverlap]
  | cons k ks ih =>
    have ho : s.overlapsEnabled before k = false ↔ ∀ j, (s.stream j).enabled = true ∨ j ∈ before →
        (s.stream j).record.shape.overlaps (s.stream k).record.shape = false := by
      simp [State.overlapsEnabled]
    simp only [State.anyOverlap, Bool.or_eq_false_iff, ho, ih, List.pairwise_cons, List.forall_mem_cons, List.mem_append,
      List.mem_singleton]
    constructor
    · rintro ⟨hk, hall, hp⟩
      exact ⟨⟨hk, fun x hx j hj => hall x hx j (by tauto)⟩, fun x hx => hall x hx k (.inr (.inr rfl)), hp⟩
    · rintro ⟨⟨hk, hall⟩, hx, hp⟩
      refine ⟨hk, fun x hmem j hj => ?_, hp⟩
      rcases hj with hj | hj | rfl
      · exact hall x hmem j (.inl hj)
      · exact hall x hmem j (.inr hj)
      · exact hx x hmem

/-- What an ENABLE that is executed has checked, in the order of R25. -/
theorem State.of_enableResult {s : State} {ks : List StreamId} (h : (s.enableResult ks).executed = true) :
    (∀ k ∈ ks, 4 ≤ (s.stream k).record.shape.slots) ∧ s.anyOverlap [] ks = false := by
  unfold State.enableResult at h
  split at h
  · cases h
  · split at h
    · cases h
    · rename_i h4
      split at h
      · cases h
      · rename_i ho
        refine ⟨fun k hk => ?_, by simpa using ho⟩
        by_contra hn
        exact h4 (List.any_eq_true.mpr ⟨k, hk, by simpa using hn⟩)

/-! ### Every step -/

/-- The part of a sound table that speaks of the streams. -/
structure State.StreamTableSound (s : State) : Prop where
  ranges : ∀ k, (s.stream k).record.shape.inRange = true
  figures : ∀ k, (s.stream k).enabled = true →
    (s.stream k).figures = some (s.stream k).record.shape.figures ∧ 4 ≤ (s.stream k).record.shape.slots
  played : ∀ k, (s.stream k).enabled = true → (s.stream k).channels = (s.stream k).record.shape.channels
  pages : ∀ j k, (s.stream j).enabled = true → (s.stream k).enabled = true → j ≠ k →
    (s.stream j).record.shape.overlaps (s.stream k).record.shape = false

/-- The part of a sound table that speaks of the cover entries. -/
def State.CoverSound (s : State) : Prop := ∀ n : Fin 8, s.cover[n].primary ≠ s.cover[n].cover

theorem State.tableSound_iff (s : State) : s.TableSound ↔ s.StreamTableSound ∧ s.CoverSound :=
  ⟨fun h => ⟨⟨h.ranges, h.figures, h.played, h.pages⟩, h.cover⟩,
    fun ⟨h, hc⟩ => ⟨h.ranges, h.figures, h.played, hc, h.pages⟩⟩

theorem State.StreamsMove.tableSound {s t : State} (h : s.StreamsMove t) (hs : s.StreamTableSound) :
    t.StreamTableSound where
  ranges k := (h k).keepsEntry.ranges (hs.ranges k)
  figures k he := by
    obtain ⟨he, hsh, hf, -⟩ := (h k).keepsEntry.entry he
    rw [hsh, hf]
    exact hs.figures k he
  played k he := by
    obtain ⟨he, hsh, -, hc⟩ := (h k).keepsEntry.entry he
    rw [hsh, hc]
    exact hs.played k he
  pages j k hj hk hjk := by
    obtain ⟨hj, hshj, -⟩ := (h j).keepsEntry.entry hj
    obtain ⟨hk, hshk, -⟩ := (h k).keepsEntry.entry hk
    rw [hshj, hshk]
    exact hs.pages j k hj hk hjk

/-- The streams that an ENABLE names take the figures of their records, and are apart by its own check (R23, R25). -/
theorem State.StreamTableSound.enable {s t : State} (hs : s.StreamTableSound) {ks : List StreamId}
    (ha : (s.enableResult ks).executed = true)
    (h : t.streams = (s.modStreams ks fun st => st.enable st.record.shape.figures).streams) : t.StreamTableSound := by
  obtain ⟨h4, ho⟩ := State.of_enableResult ha
  obtain ⟨hother, hnamed⟩ := (s.anyOverlap_eq_false_iff [] ks).mp ho
  have ht (k : StreamId) : t.stream k = if k ∈ ks then (s.stream k).enable (s.stream k).record.shape.figures
      else s.stream k := by rw [State.stream_congr h, State.stream_modStreams]
  have hrec (k : StreamId) : (t.stream k).record = (s.stream k).record := by rw [ht]; split <;> rfl
  have hen {k : StreamId} (he : (t.stream k).enabled = true) : k ∈ ks ∨ (s.stream k).enabled = true := by
    by_contra hn
    simp only [not_or] at hn
    rw [ht, if_neg hn.1] at he
    exact hn.2 he
  have hpairs : ∀ j ∈ ks, ∀ k ∈ ks, j ≠ k → (s.stream j).record.shape.overlaps (s.stream k).record.shape = false :=
    have : Std.Symm fun j k => (s.stream j).record.shape.overlaps (s.stream k).record.shape = false :=
      ⟨fun _ _ hx => by rw [Shape.overlaps_comm]; exact hx⟩
    fun j hj k hk hjk => hnamed.forall hj hk hjk
  refine ⟨fun k => hrec k ▸ hs.ranges k, fun k he => ?_, fun k he => ?_, fun j k hj hk hjk => ?_⟩
  · by_cases hk : k ∈ ks
    · rw [hrec, ht, if_pos hk]
      exact ⟨rfl, h4 k hk⟩
    · have he' := (hen he).resolve_left hk
      rw [ht, if_neg hk]
      exact hs.figures k he'
  · by_cases hk : k ∈ ks
    · rw [ht, if_pos hk]
      rfl
    · have he' := (hen he).resolve_left hk
      rw [ht, if_neg hk]
      exact hs.played k he'
  · rw [hrec, hrec]
    rcases hen hj with hj | hj <;> rcases hen hk with hk | hk
    · exact hpairs j hj k hk hjk
    · rw [Shape.overlaps_comm]
      exact hother j hj k (.inl hk)
    · exact hother k hk j (.inl hj)
    · exact hs.pages j k hj hk hjk

theorem StreamsEffect.tableSound {s t : State} (h : StreamsEffect s t) (hs : s.StreamTableSound) :
    t.StreamTableSound := by
  cases h with
  | moved h => exact h.tableSound hs
  | enabled ks accepted h => exact hs.enable accepted h

/-! ### The cover table -/

/-- A cover entry that a WRITE takes has two streams (R114). -/
theorem readCoverEntry_apart {b : List Byte} {e : CoverEntry} (h : readCoverEntry b = some e) : e.primary ≠ e.cover := by
  unfold readCoverEntry at h
  split at h
  · split at h
    · cases h
    · cases h
      assumption
  · cases h

theorem coverSound_replicate {s : State} (h : s.cover = Vector.replicate 8 CoverEntry.default) : s.CoverSound := by
  intro n
  simp [h, CoverEntry.default]

theorem State.coverSound_writeCovers {s : State} (h : s.CoverSound) (r : Request) : (s.writeCovers r).CoverSound := by
  unfold State.writeCovers
  split
  · exact fun n => by simpa using h n
  · rename_i es hes
    intro n
    simp only [State.answer_frame, writePlaces, Fin.getElem_fin, Vector.getElem_ofFn]
    cases hl : List.lookup n ((namedPlaces 8 r.index r.count).zip es) with
    | none => exact h n
    | some e =>
      obtain ⟨c, hc⟩ := exists_read_of_mem_readRecords hes (List.of_mem_zip (mem_of_lookup hl)).2
      exact readCoverEntry_apart hc

theorem State.CoverSound.congr {s t : State} (h : s.CoverSound) (ht : t.cover = s.cover) : t.CoverSound := by
  intro n
  rw [ht]
  exact h n

theorem State.coverSound_execute {s : State} (h : s.CoverSound) (r : Request) (k : RequestKind) :
    (s.execute r k).CoverSound := by
  cases k
  case write =>
    unfold State.execute
    dsimp only
    split
    · rename_i o ho
      cases o
      case cover => exact State.coverSound_writeCovers h r
      all_goals exact h.congr (by simp [State.doWrite])
    · exact h.congr (by simp)
  case reset =>
    unfold State.execute State.doReset
    dsimp only
    split
    · exact coverSound_replicate rfl
    · exact h.congr (by simp)
  all_goals
    unfold State.execute
    dsimp only
    repeat' split
    all_goals exact h.congr (by simp)

theorem State.coverSound_handle {s : State} (h : s.CoverSound) (r : Request) : (s.handle r).CoverSound := by
  unfold State.handle State.decideRequest
  repeat' split
  · exact h.congr (by simp)
  · exact h.congr (by simp)
  · exact State.coverSound_execute (h.congr (by simp)) r _
  · exact h

theorem Effect.coverSound {s t : State} (he : Effect s t) (h : s.CoverSound) : t.CoverSound := by
  cases he with
  | powerOn => exact coverSound_replicate rfl
  | request r => exact State.coverSound_handle h r
  | receive p f =>
    unfold State.receive
    have hc : (s.countPort p fun c => c.count (s.judgeFrame p f)).CoverSound := h.congr (by simp)
    generalize (s.countPort p fun c => c.count (s.judgeFrame p f)) = u at hc
    cases s.judgeFrame p f
    case request r => exact State.coverSound_handle hc r
    case segment k g => exact hc.congr (by simp [State.handOver])
    all_goals exact hc
  | _ => exact h.congr (by simp)

/-- Settles O10: the streams move or an ENABLE has passed its checks, and a WRITE of COVER takes no entry of one stream. -/
theorem stepKeepsEnabledStreamsApart : Obligations.StepKeepsEnabledStreamsApart := fun _ _ hs h =>
  step_keeps (P := State.TableSound)
    (fun _ _ h => ⟨h.ranges, h.figures, h.played, h.cover, h.pages⟩)
    (fun s t he hs => (t.tableSound_iff).mpr
      ⟨he.streamsEffect.tableSound ((s.tableSound_iff).mp hs).1, he.coverSound ((s.tableSound_iff).mp hs).2⟩) h hs

/-! ### Every command -/

/-- Settles O2: every command answers one of the states of `Effect`, each of which keeps the queue. -/
theorem everyCommandAnswersAndKeepsTheQueue : Obligations.EveryCommandAnswersAndKeepsTheQueue := fun i s => by
  obtain ⟨t, ht, he⟩ := exec_effect i s
  refine ⟨t, ht, ?_⟩
  cases he with
  | powerOn => rfl
  | _ => simp

end Sys2Proof.Machine
end

section
/-! The path of an arrival and the figures of an ENABLE (sections 2.2 and 2.3, R22, R24, R27, R29, R30, R147). -/

namespace Sys2Proof.Machine

/-! ### Counters -/

theorem Counter.add_toNat (c : Counter) (n : Nat) : (Counter.add c n).toNat = min (c.toNat + n) 4294967295 := by
  have h : min (c.toNat + n) 4294967295 < 2 ^ 32 := by omega
  simp only [Counter.add, BitVec.toNat_ofNat]
  exact Nat.mod_eq_of_lt h

/-! ### Sequence tracking (R30) -/

/-- Sequence tracking touches E and two counters alone. -/
theorem PathContext.track_frame (c : PathContext) (q : Seq) :
    (c.track q).blocksSince = c.blocksSince ∧ (c.track q).lastArrival = c.lastArrival
      ∧ (c.track q).lastInterval = c.lastInterval ∧ (c.track q).largestInterval = c.largestInterval
      ∧ (c.track q).frozen = c.frozen ∧ (c.track q).down = c.down := by
  unfold PathContext.track
  dsimp only
  repeat' split
  all_goals simp only [and_self]

theorem PathContext.track_absent {c : PathContext} (h : c.expected = none) (q : Seq) :
    c.track q = { c with expected := some (q + 1) } := by simp only [PathContext.track, h]

theorem PathContext.track_ahead {c : PathContext} {e q : Seq} (h : c.expected = some e) (hd : 0 < (q - e).toInt) :
    c.track q = { c with
      expected := some (q + 1), counters := { c.counters with lost := Counter.add c.counters.lost (q - e).toInt.toNat } } := by
  simp only [PathContext.track, h, seqDiff, if_pos hd]

theorem PathContext.track_expected {c : PathContext} {e q : Seq} (h : c.expected = some e) (hd : (q - e).toInt = 0) :
    c.track q = { c with expected := some (q + 1) } := by
  simp only [PathContext.track, h, seqDiff, hd, lt_irrefl, if_false, if_true]

theorem PathContext.track_behind {c : PathContext} {e q : Seq} (h : c.expected = some e) (hd : (q - e).toInt < 0) :
    c.track q = { c with counters := { c.counters with outOfOrder := Counter.inc c.counters.outOfOrder } } := by
  simp only [PathContext.track, h, seqDiff, if_neg hd.not_gt, if_neg hd.ne]

/-! ### Arrival intervals (R147) -/

/-- An arrival's capture touches the last arrival and the interval record alone. -/
theorem PathContext.capture_frame (c : PathContext) (h : HouseCount) :
    (c.capture h).expected = c.expected ∧ (c.capture h).blocksSince = c.blocksSince
      ∧ (c.capture h).counters = c.counters ∧ (c.capture h).lastArrival = some h ∧ (c.capture h).down = c.down := by
  unfold PathContext.capture
  repeat' split
  all_goals simp only [and_self]

theorem PathContext.capture_kept {c : PathContext} (hk : c.lastArrival = none ∨ c.frozen = true) (h : HouseCount) :
    c.capture h = { c with lastArrival := some h } := by
  unfold PathContext.capture
  rcases hk with hk | hk
  · rw [hk]
  · split
    · rfl
    · rw [if_pos hk]

theorem PathContext.capture_interval {c : PathContext} {a : HouseCount} (ha : c.lastArrival = some a)
    (hf : c.frozen = false) (h : HouseCount) :
    c.capture h = { c with
      lastArrival := some h, lastInterval := min (h - a).toNat 65535,
      largestInterval := max c.largestInterval (min (h - a).toNat 65535),
      frozen := decide (min (h - a).toNat 65535 = 65535) } := by
  simp [PathContext.capture, ha, hf, arrivalInterval]

/-- Settles O21: the arrival is a count, a capture and the tracking, each on its own fields. -/
theorem pathArrivalIsTracked : Obligations.PathArrivalIsTracked := by
  intro c h q t
  obtain ⟨hE, hB, hC, hA, hD⟩ := PathContext.capture_frame { c with blocksSince := 0 } h
  have hcap : t = (PathContext.capture { c with blocksSince := 0 } h).track q := rfl
  obtain ⟨tB, tA, tL, tG, tF, tD⟩ := PathContext.track_frame (PathContext.capture { c with blocksSince := 0 } h) q
  rw [← hcap] at tB tA tL tG tF tD
  refine ⟨tB.trans hB, tA.trans hA, tD.trans hD, fun he => ?_, fun e he => ⟨fun hd => ?_, fun hd => ?_, fun hd => ?_⟩,
    fun hk => ?_, fun a ha hf => ?_, fun v n => ⟨Counter.add_toNat v n, rfl⟩⟩
  · rw [hcap, PathContext.track_absent (hE.trans he)]
    exact ⟨rfl, hC⟩
  · rw [hcap, PathContext.track_ahead (hE.trans he) hd]
    exact ⟨rfl, by rw [hC]⟩
  · rw [hcap, PathContext.track_expected (hE.trans he) hd]
    exact ⟨rfl, hC⟩
  · rw [hcap, PathContext.track_behind (hE.trans he) hd]
    exact ⟨hE.trans he, by rw [hC]⟩
  · rw [tL, tG, tF, PathContext.capture_kept (c := { c with blocksSince := 0 }) hk]
    exact ⟨rfl, rfl, rfl⟩
  · rw [tL, tG, tF, PathContext.capture_interval (c := { c with blocksSince := 0 }) ha hf]
    refine ⟨rfl, rfl, ?_⟩
    simp

/-! ### Figures (section 2.2) -/

/-- The powers of two from the one of an exponent down to 1. -/
def powersDown : Nat → List Nat
  | 0 => [1]
  | e + 1 => 2 ^ (e + 1) :: powersDown e

theorem slotsWithin_eq (n : Nat) : slotsWithin n = ((powersDown 12).find? fun p => decide (p ≤ n)).getD 0 := rfl

/-- The first power of two that is at most a number is the largest one in the list that is. -/
theorem find?_powersDown {n : Nat} (hn : 0 < n) (e : Nat) : ∃ k ≤ e,
    ((powersDown e).find? fun p => decide (p ≤ n)) = some (2 ^ k) ∧ 2 ^ k ≤ n ∧ (k = e ∨ n < 2 * 2 ^ k) := by
  induction e with
  | zero => exact ⟨0, le_rfl, by simp [powersDown, Nat.succ_le_of_lt hn], hn, .inl rfl⟩
  | succ e ih =>
    by_cases h : 2 ^ (e + 1) ≤ n
    · exact ⟨e + 1, le_rfl, by simp [powersDown, h], h, .inl rfl⟩
    · obtain ⟨k, hk, hfind, hle, hmax⟩ := ih
      refine ⟨k, hk.trans e.le_succ, by simp [powersDown, h, hfind], hle, .inr ?_⟩
      rcases hmax with rfl | hlt
      · rw [pow_succ] at h
        omega
      · exact hlt

/-- The largest power of two up to 4096 that is at most a positive number. -/
theorem slotsWithin_pos {n : Nat} (hn : 0 < n) :
    ∃ e ≤ 12, slotsWithin n = 2 ^ e ∧ 2 ^ e ≤ n ∧ (e = 12 ∨ n < 2 * 2 ^ e) := by
  obtain ⟨e, he, hfind, hle, hmax⟩ := find?_powersDown hn 12
  exact ⟨e, he, by rw [slotsWithin_eq, hfind, Option.getD_some], hle, hmax⟩

theorem slotsWithin_le (n : Nat) : slotsWithin n ≤ n := by
  rcases Nat.eq_zero_or_pos n with rfl | hn
  · exact le_rfl
  · obtain ⟨e, -, he, hle, -⟩ := slotsWithin_pos hn
    exact he ▸ hle

/-- The slots of a ring fit in its pages (R22). -/
theorem Shape.slots_fit (sh : Shape) : sh.slots * (sh.channels * sh.segLen) ≤ sh.pageCount * 768 :=
  (Nat.mul_le_mul_right _ (slotsWithin_le _)).trans (Nat.div_mul_le_self _ _)

/-- A ring of at least four slots is one into whose pages four segments fit. -/
theorem Shape.slots_lt_four_iff (sh : Shape) :
    sh.slots < 4 ↔ sh.pageCount * 768 / (sh.channels * sh.segLen) < 4 := by
  unfold Shape.slots
  generalize sh.pageCount * 768 / (sh.channels * sh.segLen) = n
  refine ⟨fun h => ?_, (slotsWithin_le n).trans_lt⟩
  rcases Nat.eq_zero_or_pos n with rfl | hn
  · decide
  · obtain ⟨e, -, he, -, hmax⟩ := slotsWithin_pos hn
    have h2 : e < 2 := by
      by_contra h2
      have : 2 ^ 2 ≤ 2 ^ e := Nat.pow_le_pow_right (by decide) (by omega)
      omega
    rcases hmax with rfl | hlt
    · omega
    · rw [he] at h
      have : 2 ^ e ≤ 2 ^ 1 := Nat.pow_le_pow_right (by decide) (by omega)
      omega

/-- Settles O53: the number of segments that fit, and the largest power of two up to it. -/
theorem figuresOfAnEnable : Obligations.FiguresOfAnEnable := by
  intro sh hc hl f
  have hsize : 0 < sh.channels * sh.segLen := Nat.mul_pos hc hl
  have heff : f.effH = (if f.capacity - 2 * sh.segLen < sh.holdDepth then f.capacity - 2 * sh.segLen else sh.holdDepth) := by
    show min sh.holdDepth (f.capacity - 2 * sh.segLen) = _
    split <;> omega
  refine ⟨?_, sh.slots_fit, ?_, rfl, heff⟩
  · rcases Nat.eq_zero_or_pos (sh.pageCount * 768 / (sh.channels * sh.segLen)) with hn | hn
    · exact .inl (congrArg slotsWithin hn)
    · obtain ⟨e, he, hs, -⟩ := slotsWithin_pos hn
      exact .inr ⟨e, he, hs⟩
  · intro hmax
    rw [← Nat.div_lt_iff_lt_mul hsize]
    rcases Nat.eq_zero_or_pos (sh.pageCount * 768 / (sh.channels * sh.segLen)) with hn | hn
    · have hs : f.slots = 0 := congrArg slotsWithin hn
      rw [hs, hn]
      decide
    · obtain ⟨e, -, hs, -, hlt⟩ := slotsWithin_pos hn
      have hs : f.slots = 2 ^ e := hs
      have he : e ≠ 12 := by
        rintro rfl
        exact hmax hs
      rw [hs, if_neg (by positivity)]
      exact hlt.resolve_left he

end Sys2Proof.Machine
end

section
/-! Segments: what the classifier does with one by its verdict (R28 to R36, R45, R71, R73, R151, R152). -/

namespace Sys2Proof.Machine

/-! ### Changes of one stream -/

/-- A change of a stream is the change of what the stream holds. -/
theorem State.modStream_congr {s : State} {k : StreamId} {f g : Stream → Stream}
    (h : f (s.stream k) = g (s.stream k)) : s.modStream k f = s.modStream k g := by
  simp only [State.stream] at h
  simp only [State.modStream, h]

theorem State.clearAlarm_modStream (s : State) (k : StreamId) (f : Stream → Stream) (a : StreamAlarm) :
    (s.modStream k f).clearAlarm k a
      = s.modStream k fun st => { f st with alarms := (f st).alarms.set a false } := by
  rw [State.clearAlarm, State.setAlarm, State.modStream_modStream]

/-- The model's relock is the relock that R73 lists. -/
theorem State.relock_eq (s : State) (k : StreamId) : s.relock k = s.relocked k := by
  rw [State.relock, State.clearAlarm_modStream]
  rfl

/-! ### A segment that passes the shape check (R29, R30, R147, R151) -/

theorem PathContext.capture_down (c : PathContext) (b : Bool) (h : HouseCount) :
    PathContext.capture { c with down := b } h = { c.capture h with down := b } := by
  obtain ⟨expected, blocks, counters, last, interval, largest, frozen, down⟩ := c
  cases last <;> cases frozen <;> rfl

theorem PathContext.track_down (c : PathContext) (b : Bool) (q : Seq) :
    PathContext.track { c with down := b } q = { c.track q with down := b } := by
  obtain ⟨expected, blocks, counters, last, interval, largest, frozen, down⟩ := c
  cases expected with
  | none => rfl
  | some e =>
    simp only [PathContext.track]
    split
    · rfl
    · split <;> rfl

/-- An arrival does not read the path's condition. -/
theorem PathContext.arrive_down (c : PathContext) (b : Bool) (h : HouseCount) (q : Seq) :
    PathContext.arrive { c with down := b } h q = { c.arrive h q with down := b } := by
  have hc := PathContext.capture_down { c with blocksSince := 0 } b h
  unfold PathContext.arrive
  rw [← PathContext.track_down, ← hc]

theorem State.tallyPath_eq_arrived (s : State) (k : StreamId) (p : Port) (g : Segment) {v : Verdict}
    (h1 : v ≠ .outOfState) (h2 : v ≠ .mismatchShape) :
    s.tallyPath k p g v = s.arrived k p g fun n => n.tally v := by
  have ht : s.tallyPath k p g v = (s.clearPathDown k p).modStream k fun st =>
      st.modPath p fun c => PathContext.arrive { c with counters := c.counters.tally v } s.tb.h g.seq := by
    cases v with
    | outOfState => exact absurd rfl h1
    | mismatchShape => exact absurd rfl h2
    | _ => rfl
  rw [ht, State.clearPathDown, State.arrived]
  split
  · rename_i hd
    rw [State.clearAlarm_modStream, State.modStream_modStream]
    refine State.modStream_congr ?_
    rw [if_pos hd]
    cases p <;> simp only [Stream.modPath, pathAlarm, AlarmFlags.set, ← PathContext.arrive_down]
  · rename_i hd
    refine State.modStream_congr ?_
    rw [if_neg hd]
    cases p <;> simp only [Stream.modPath, ← PathContext.arrive_down] <;> rw [← Bool.eq_false_iff.mpr hd] <;> rfl

/-- What an arrival leaves of its stream: everything that its verdict reads, and the record of its lock. -/
theorem State.stream_arrived (s : State) (k : StreamId) (p : Port) (g : Segment) (count : PathCounters → PathCounters) :
    ∃ (a b : PathContext) (f : AlarmFlags),
      (s.arrived k p g count).stream k = { s.stream k with pathA := a, pathB := b, alarms := f } := by
  rw [State.arrived, State.stream_modStream_same]
  cases p
  · exact ⟨_, _, _, rfl⟩
  · exact ⟨_, _, _, rfl⟩

@[simp] theorem State.arrived_mem (s : State) (k : StreamId) (p : Port) (g : Segment)
    (count : PathCounters → PathCounters) : (s.arrived k p g count).mem = s.mem := rfl

/-! ### Verdicts (R29, R32 to R35) -/

theorem Stream.onTimeline_iff (st : Stream) (q : Seq) (t : Origin) : st.onTimeline q t = true ↔
    ∀ a, st.anchor = some a → (t - a.origin).toInt = (q - a.seq).toInt * st.record.shape.segLen := by
  unfold Stream.onTimeline
  cases st.anchor with
  | none => simp
  | some a => simp [timeDiff, seqDiff]

section Judge

variable {st : Stream} {q : Seq} {t : Origin}

theorem Stream.judge_offTimeline (h : ¬ st.onTimeline q t = true) : st.judge q t = .mismatchTimeline := by
  simp only [Stream.judge, Bool.eq_false_iff.mpr h, Bool.not_false, if_true]

theorem Stream.judge_late (h : st.onTimeline q t = true) (hr : st.reach t ≤ 0) : st.judge q t = .late := by
  simp only [Stream.judge, h, Bool.not_true, Bool.false_eq_true, if_false, if_pos hr]

theorem Stream.judge_early (h : st.onTimeline q t = true) (hr : 0 < st.reach t) (he : (st.fig.capacity : Int) < st.reach t) :
    st.judge q t = .early := by
  simp only [Stream.judge, h, Bool.not_true, Bool.false_eq_true, if_false, if_neg hr.not_ge, if_pos he]

theorem Stream.judge_wanted (h : st.onTimeline q t = true) (hr : 0 < st.reach t) (he : st.reach t ≤ (st.fig.capacity : Int)) :
    st.judge q t = if lookupKey st.tags (st.slotOf q) = some ⟨q, t⟩ then .duplicate else .accepted := by
  simp only [Stream.judge, h, Bool.not_true, Bool.false_eq_true, if_false, if_neg hr.not_ge, if_neg he.not_gt]

end Judge

theorem Stream.verdict_misfit {st : Stream} {g : Segment} (hf : ¬ st.Fits g) (hs : st.state ≠ .idle) :
    st.verdict g = .mismatchShape := by
  unfold Stream.verdict
  split
  · rename_i h
    exact absurd h hs
  all_goals exact if_neg hf

theorem Stream.verdict_acquire {st : Stream} {g : Segment} (hf : st.Fits g) (hs : st.state = .acquire) :
    st.verdict g = .first := by
  rw [Stream.verdict, hs]
  exact if_pos hf

theorem Stream.verdict_locked {st : Stream} {g : Segment} (hf : st.Fits g) (hs : st.Locked) :
    st.verdict g = st.judge g.seq g.origin := by
  rcases hs with hs | hs | hs <;> rw [Stream.verdict, hs] <;> exact if_pos hf

theorem Stream.Locked.not_idle {st : Stream} (h : st.Locked) : st.state ≠ .idle := by
  rcases h with h | h | h <;> rw [h] <;> decide

theorem Stream.Locked.not_acquire {st : Stream} (h : st.Locked) : st.state ≠ .acquire := by
  rcases h with h | h | h <;> rw [h] <;> decide

/-! ### Rejected segments (R36) -/

/-- The state that a segment leaves which is counted on its path and no more: of the wrong shape it is counted alone, and
otherwise it also arrives (R29, R37). -/
def State.counted (s : State) (k : StreamId) (p : Port) (g : Segment) (v : Verdict) : State :=
  if v = .mismatchShape then
    s.modStream k fun st => st.modPath p fun c => { c with counters := c.counters.tally .mismatchShape }
  else s.arrived k p g fun n => n.tally v

theorem State.counted_misfit (s : State) (k : StreamId) (p : Port) (g : Segment) : s.counted k p g .mismatchShape
    = s.modStream k fun st => st.modPath p fun c => { c with counters := c.counters.tally .mismatchShape } := if_pos rfl

theorem State.counted_fit (s : State) (k : StreamId) (p : Port) (g : Segment) {v : Verdict} (h : v ≠ .mismatchShape) :
    s.counted k p g v = s.arrived k p g fun n => n.tally v := if_neg h

theorem State.tallyPath_eq_counted (s : State) (k : StreamId) (p : Port) (g : Segment) {v : Verdict}
    (h : v ≠ .outOfState) : s.tallyPath k p g v = s.counted k p g v := by
  unfold State.counted
  split
  · rename_i hv
    subst hv
    rfl
  · rename_i hv
    exact s.tallyPath_eq_arrived k p g h hv

theorem State.stream_counted (s : State) (k : StreamId) (p : Port) (g : Segment) (v : Verdict) :
    ∃ (a b : PathContext) (f : AlarmFlags),
      (s.counted k p g v).stream k = { s.stream k with pathA := a, pathB := b, alarms := f } := by
  unfold State.counted
  split
  · rw [State.stream_modStream_same]
    cases p
    · exact ⟨_, _, _, rfl⟩
    · exact ⟨_, _, _, rfl⟩
  · exact s.stream_arrived k p g _

theorem State.conclude_rejected {s : State} {k : StreamId} {v : Verdict} (g : Segment) (hr : v.rejects = true)
    (hs : (s.stream k).state ≠ .acquire) : s.conclude k g v = s.reject k := by
  cases v with
  | mismatchShape => exact if_neg hs
  | mismatchTimeline => rfl
  | late => rfl
  | early => rfl
  | outOfState => cases hr
  | first => cases hr
  | duplicate => cases hr
  | accepted => cases hr

/-- A segment that a locked stream rejects is counted, and advances the reject run or relocks the stream (R36). -/
theorem State.classify_rejected {s : State} {k : StreamId} (p : Port) {g : Segment} {v : Verdict}
    (hv : (s.stream k).verdict g = v) (hr : v.rejects = true) (hs : (s.stream k).state ≠ .acquire) :
    s.classify k p g = (s.counted k p g v).reject k := by
  obtain ⟨a, b, f, hst⟩ := s.stream_counted k p g v
  have hs' : ((s.counted k p g v).stream k).state ≠ .acquire := by rw [hst]; exact hs
  rw [State.classify, hv, State.tallyPath_eq_counted _ _ _ _ (by rintro rfl; cases hr), State.conclude_rejected g hr hs']

theorem State.counted_rejectRun (s : State) (k : StreamId) (p : Port) (g : Segment) (v : Verdict) :
    ((s.counted k p g v).stream k).rejectRun = (s.stream k).rejectRun := by
  obtain ⟨a, b, f, hst⟩ := s.stream_counted k p g v
  rw [hst]

/-- The reject run advances while it stays below 16. -/
theorem State.classify_rejected_below {s : State} {k : StreamId} (p : Port) {g : Segment} {v : Verdict}
    (hv : (s.stream k).verdict g = v) (hr : v.rejects = true) (hs : (s.stream k).state ≠ .acquire)
    (hn : (s.stream k).rejectRun + 1 < 16) :
    s.classify k p g = (s.counted k p g v).modStream k fun t => { t with rejectRun := t.rejectRun + 1 } := by
  rw [State.classify_rejected p hv hr hs, State.reject, if_neg]
  rw [State.counted_rejectRun]
  omega

/-- The rejection that brings the run to 16 relocks the stream. -/
theorem State.classify_rejected_relocks {s : State} {k : StreamId} (p : Port) {g : Segment} {v : Verdict}
    (hv : (s.stream k).verdict g = v) (hr : v.rejects = true) (hs : (s.stream k).state ≠ .acquire)
    (hn : 16 ≤ (s.stream k).rejectRun + 1) : s.classify k p g = (s.counted k p g v).relocked k := by
  rw [State.classify_rejected p hv hr hs, State.reject, if_pos, State.relock_eq]
  rw [State.counted_rejectRun]
  exact hn

theorem State.HandsOver.exec_rejected_below {s : State} {p : Port} {g : Segment} {k : StreamId} (h : s.HandsOver p g k)
    {v : Verdict} (hv : (s.stream k).verdict g = v) (hr : v.rejects = true) (hl : (s.stream k).Locked)
    (hn : (s.stream k).rejectRun + 1 < 16) : exec (.audioSegment p g) s
      = .next ((s.counted k p g v).modStream k fun t => { t with rejectRun := t.rejectRun + 1 }) := by
  rw [h.exec_audioSegment, State.classify_rejected_below p hv hr hl.not_acquire hn]

/-- Settles O22: the verdict of each case, and the count, the arrival and the rejection that it stands for. -/
theorem segmentNotStoredOnlyCounts : Obligations.SegmentNotStoredOnlyCounts := by
  intro s p g k hg st reach aligned held
  have hline := st.onTimeline_iff g.seq g.origin
  refine ⟨fun hf ha => ?_, fun hf hl hn => ?_, fun hf hl hoff hn => ?_, fun hf hl hon hlate hn => ?_,
    fun hf hl hon hpos hcap hn => ?_, fun hf hl hon hpos hcap hheld => ?_⟩
  · have hv : (s.stream k).verdict g = .mismatchShape := Stream.verdict_misfit hf (by rw [ha]; decide)
    obtain ⟨a, b, f, hst⟩ := s.stream_counted k p g .mismatchShape
    have ha' : ((s.counted k p g .mismatchShape).stream k).state = .acquire := by rw [hst]; exact ha
    rw [hg.exec_audioSegment, State.classify, hv, State.tallyPath_eq_counted _ _ _ _ (by decide), State.conclude,
      if_pos ha', State.counted_misfit]
    rfl
  · have h := hg.exec_rejected_below (Stream.verdict_misfit hf hl.not_idle) rfl hl hn
    rwa [State.counted_misfit] at h
  · have h := hg.exec_rejected_below
      ((Stream.verdict_locked hf hl).trans (Stream.judge_offTimeline (hline.not.mpr hoff))) rfl hl hn
    rwa [State.counted_fit _ _ _ _ (by decide)] at h
  · have h := hg.exec_rejected_below
      ((Stream.verdict_locked hf hl).trans (Stream.judge_late (hline.mpr hon) hlate)) rfl hl hn
    rwa [State.counted_fit _ _ _ _ (by decide)] at h
  · have h := hg.exec_rejected_below
      ((Stream.verdict_locked hf hl).trans (Stream.judge_early (hline.mpr hon) hpos hcap)) rfl hl hn
    rwa [State.counted_fit _ _ _ _ (by decide)] at h
  · have hv : (s.stream k).verdict g = .duplicate :=
      (Stream.verdict_locked hf hl).trans ((Stream.judge_wanted (hline.mpr hon) hpos hcap).trans (if_pos hheld))
    rw [hg.exec_audioSegment, State.classify, hv, State.tallyPath_eq_arrived _ _ _ _ (by decide) (by decide)]
    rfl

theorem State.HandsOver.exec_rejectRunRelock {s : State} {p : Port} {g : Segment} {k : StreamId} (h : s.HandsOver p g k) :
    exec (.rejectRunRelock p g) s = .next (if (s.stream k).rejectionRelocks g then s.classify k p g else s) := by
  have hh : s.handed p g = some k := by
    simp [State.handed, h.released, h.wellFormed, State.admitted_eq_some h.names h.enabled h.included]
  simp only [exec, execRejectRunRelock, hh]

theorem Stream.rejectionRelocks_iff (st : Stream) (g : Segment) : st.rejectionRelocks g = true ↔
    ((st.verdict g).rejects = true ∧ st.state ≠ .acquire) ∧ 16 ≤ st.rejectRun + 1 := by
  simp [Stream.rejectionRelocks]

/-- Where the rejection brings the run to 16, the two rows answer the same relock (R36). -/
theorem State.HandsOver.exec_relocks {s : State} {p : Port} {g : Segment} {k : StreamId} (h : s.HandsOver p g k)
    {v : Verdict} (hv : (s.stream k).verdict g = v) (hr : v.rejects = true) (hl : (s.stream k).Locked)
    (hn : 16 ≤ (s.stream k).rejectRun + 1) :
    exec (.rejectRunRelock p g) s = .next ((s.counted k p g v).relocked k)
      ∧ exec (.audioSegment p g) s = exec (.rejectRunRelock p g) s := by
  rw [h.exec_audioSegment, h.exec_rejectRunRelock,
    if_pos ((Stream.rejectionRelocks_iff _ _).mpr ⟨⟨hv ▸ hr, hl.not_acquire⟩, hn⟩),
    State.classify_rejected_relocks p hv hr hl.not_acquire hn]
  exact ⟨rfl, rfl⟩

/-- Settles O25: the row REJECT_RUN_RELOCK is the row AUDIO_SEGMENT where the rejection brings the run to 16. -/
theorem sixteenthRejectionRelocks : Obligations.SixteenthRejectionRelocks := by
  intro s p g k hg st reach aligned
  have hline := st.onTimeline_iff g.seq g.origin
  refine ⟨fun hl hn => ⟨fun hf => ?_, fun hf hoff => ?_, fun hf hon hlate => ?_, fun hf hon hpos hcap => ?_⟩, fun hn => ?_⟩
  · have h := hg.exec_relocks (Stream.verdict_misfit hf hl.not_idle) rfl hl hn
    rwa [State.counted_misfit] at h
  · have h := hg.exec_relocks ((Stream.verdict_locked hf hl).trans (Stream.judge_offTimeline (hline.not.mpr hoff))) rfl hl hn
    rwa [State.counted_fit _ _ _ _ (by decide)] at h
  · have h := hg.exec_relocks ((Stream.verdict_locked hf hl).trans (Stream.judge_late (hline.mpr hon) hlate)) rfl hl hn
    rwa [State.counted_fit _ _ _ _ (by decide)] at h
  · have h := hg.exec_relocks ((Stream.verdict_locked hf hl).trans (Stream.judge_early (hline.mpr hon) hpos hcap)) rfl hl hn
    rwa [State.counted_fit _ _ _ _ (by decide)] at h
  · rw [hg.exec_rejectRunRelock, if_neg]
    rw [Stream.rejectionRelocks_iff]
    exact fun hx => absurd hn (Nat.not_lt.mpr hx.2)

/-! ### Segments that are stored (R31, R35, R45) -/

/-- A segment stored, and then a change of its stream. -/
theorem State.store_modStream (s : State) (k : StreamId) (g : Segment) (f : Stream → Stream) :
    (s.store k g).modStream k f
      = { s.modStream k (fun st => f (st.tagged g)) with
          mem := writeWords s.mem (wordAddress (s.stream k).record.shape ((s.stream k).slotOf g.seq) 0) g.samples } := by
  have hm (u : State) (m : Memory) : State.modStream { u with mem := m } k f = { u.modStream k f with mem := m } := rfl
  rw [State.store, hm, State.modStream_modStream]
  exact congrArg (fun u : State => { u with
    mem := writeWords s.mem (wordAddress (s.stream k).record.shape ((s.stream k).slotOf g.seq) 0) g.samples })
    (State.modStream_congr rfl)

/-- Two states that agree, answered with the same sample memory. -/
theorem State.next_withMem {s t : State} {m : Memory} (h : s = t) :
    (.next { s with mem := m } : Host.Outcome State Fault Refusal) = .next { t with mem := m } := by rw [h]

/-- What the acceptance of a later segment leaves of its stream (R35, R71, R84). -/
theorem Stream.accept_tagged (st : Stream) (g : Segment) : (st.tagged g).accept g = { st with
    tags := insertKey st.tags (g.seq.toNat % st.fig.slots) ⟨g.seq, g.origin⟩, anchor := some ⟨g.seq, g.origin⟩,
    newest := st.newestAfter g.origin, rejectRun := 0, accepted := true, quiet := 0,
    state := if st.state = .holdover then .playing else st.state,
    tightest := min st.tightest (clamp (-32768) 32767 (timeDiff g.origin st.playPoint)) } := rfl

/-- Settles O23: the first segment of a lock arrives, is stored, and starts the lock. -/
theorem firstSegmentStartsTheLock : Obligations.FirstSegmentStartsTheLock := by
  intro s p g k hg st i hf ha
  obtain ⟨a, b, f, hst⟩ := s.stream_arrived k p g fun n => n.tally .first
  rw [hg.exec_audioSegment, State.classify, Stream.verdict_acquire hf ha,
    State.tallyPath_eq_arrived _ _ _ _ (by decide) (by decide), State.conclude, State.store_modStream, hst,
    State.arrived_mem]
  exact State.next_withMem (State.modStream_congr (by rw [hst]; rfl))

/-- Settles O24: a wanted segment arrives, is stored, moves the anchor, and ends a holdover. -/
theorem laterSegmentIsAccepted : Obligations.LaterSegmentIsAccepted := by
  intro s p g k hg st i past hf hl hon hpos hcap hheld
  have hv : (s.stream k).verdict g = .accepted :=
    (Stream.verdict_locked hf hl).trans
      ((Stream.judge_wanted ((st.onTimeline_iff g.seq g.origin).mpr hon) hpos hcap).trans (if_neg hheld))
  obtain ⟨a, b, f, hst⟩ := s.stream_arrived k p g fun n => n.tally .accepted
  rw [hg.exec_audioSegment, State.classify, hv, State.tallyPath_eq_arrived _ _ _ _ (by decide) (by decide),
    State.conclude, State.store_modStream, hst, State.arrived_mem]
  by_cases hh : st.state = .holdover
  · rw [if_pos hh]
    refine State.next_withMem (s := State.clearAlarm _ k .starved) ?_
    rw [State.clearAlarm_modStream]
    refine State.modStream_congr ?_
    rw [hst, Stream.accept_tagged, if_pos hh, if_pos hh]
    rfl
  · rw [if_neg hh]
    refine State.next_withMem (State.modStream_congr ?_)
    rw [hst, Stream.accept_tagged, if_neg hh, if_neg hh]
    rfl

end Sys2Proof.Machine
end

section
/-! A segment of one stream leaves the others, and the samples that they can read (R23, R28, R42 to R45). -/

namespace Sys2Proof.Machine

/-! ### The other streams -/

theorem State.stream_relocked_other (s : State) {k j : StreamId} (h : j ≠ k) : (s.relocked k).stream j = s.stream j := by
  rw [State.relocked, State.stream_latch, State.stream_modStream_other _ _ h]

theorem State.stream_reject_other (s : State) {k j : StreamId} (h : j ≠ k) : (s.reject k).stream j = s.stream j := by
  unfold State.reject
  split
  · rw [State.relock_eq, State.stream_relocked_other s h]
  · exact State.stream_modStream_other _ _ h

theorem State.stream_tallyPath_other (s : State) {k j : StreamId} (h : j ≠ k) (p : Port) (g : Segment) (v : Verdict) :
    (s.tallyPath k p g v).stream j = s.stream j := by
  by_cases hv : v = .outOfState
  · subst hv
    rfl
  · rw [State.tallyPath_eq_counted _ _ _ _ hv, State.counted]
    split
    · exact State.stream_modStream_other _ _ h
    · exact State.stream_modStream_other _ _ h

theorem State.stream_store_other (s : State) {k j : StreamId} (h : j ≠ k) (g : Segment) (f : Stream → Stream) :
    ((s.store k g).modStream k f).stream j = s.stream j := by rw [State.stream_store_modStream, if_neg h]

theorem State.stream_conclude_other (s : State) {k j : StreamId} (h : j ≠ k) (g : Segment) (v : Verdict) :
    (s.conclude k g v).stream j = s.stream j := by
  cases v with
  | outOfState => rfl
  | duplicate => rfl
  | mismatchShape =>
    rw [State.conclude]
    split
    · rfl
    · exact s.stream_reject_other h
  | mismatchTimeline => exact s.stream_reject_other h
  | late => exact s.stream_reject_other h
  | early => exact s.stream_reject_other h
  | first => exact s.stream_store_other h g _
  | accepted =>
    rw [State.conclude]
    split
    · rw [State.stream_clearAlarm, if_neg h, s.stream_store_other h g]
    · exact s.stream_store_other h g _

theorem State.stream_classify_other (s : State) {k j : StreamId} (h : j ≠ k) (p : Port) (g : Segment) :
    (s.classify k p g).stream j = s.stream j := by
  rw [State.classify, State.stream_conclude_other _ h, State.stream_tallyPath_other _ h]

/-! ### Sample memory -/

/-- Sample memory after a classification: as before, or with the samples of a segment of the record's shape written in a slot
position of the ring (R45). -/
theorem State.classify_mem (s : State) (k : StreamId) (p : Port) (g : Segment) :
    (s.classify k p g).mem = s.mem ∨ ((s.stream k).Fits g ∧ (s.classify k p g).mem
      = writeWords s.mem (wordAddress (s.stream k).record.shape ((s.stream k).slotOf g.seq) 0) g.samples) := by
  have kept {v : Verdict} (u : State) (hv : v ≠ .first ∧ v ≠ .accepted) : (u.conclude k g v).mem = u.mem := by
    cases v with
    | first => exact absurd rfl hv.1
    | accepted => exact absurd rfl hv.2
    | outOfState => rfl
    | duplicate => rfl
    | mismatchShape => rw [State.conclude]; split <;> simp
    | mismatchTimeline => exact (u.reject_frame k).2.2.2.1
    | late => exact (u.reject_frame k).2.2.2.1
    | early => exact (u.reject_frame k).2.2.2.1
  have written {v : Verdict} (h1 : v ≠ .outOfState) (h2 : v ≠ .mismatchShape) (f : Stream → Stream) :
      (((s.tallyPath k p g v).store k g).modStream k f).mem
        = writeWords s.mem (wordAddress (s.stream k).record.shape ((s.stream k).slotOf g.seq) 0) g.samples := by
    obtain ⟨a, b, x, hst⟩ := s.stream_arrived k p g fun n => n.tally v
    rw [State.tallyPath_eq_arrived _ _ _ _ h1 h2, State.store_modStream, hst]
    rfl
  rw [State.classify]
  by_cases hf : (s.stream k).verdict g = .first
  · refine .inr ⟨(Stream.of_verdict_first hf).2, ?_⟩
    rw [hf, State.conclude, written (by decide) (by decide)]
  · by_cases ha : (s.stream k).verdict g = .accepted
    · refine .inr ⟨(Stream.of_verdict_accepted ha).2.1, ?_⟩
      rw [ha, State.conclude]
      split
      · rw [(State.clearAlarm_frame _ _ _).2.2.2.1, written (by decide) (by decide)]
      · rw [written (by decide) (by decide)]
    · refine .inl ?_
      rw [kept _ ⟨hf, ha⟩]
      simp

/-- The words of a slot position lie in the pages of the ring (R22, R43). -/
theorem Shape.wordAddress_bounds {sh : Shape} {i o c : Nat} (hi : i < sh.slots) (ho : o < sh.segLen)
    (hc : c < sh.channels) :
    sh.basePage * 768 ≤ wordAddress sh i o + c ∧ wordAddress sh i o + c < (sh.basePage + sh.pageCount) * 768 := by
  have hfit := sh.slots_fit
  have hpos : (i * sh.segLen + o) * sh.channels + c < sh.slots * (sh.channels * sh.segLen) :=
    calc (i * sh.segLen + o) * sh.channels + c < (i * sh.segLen + o) * sh.channels + sh.channels := by omega
      _ = (i * sh.segLen + o + 1) * sh.channels := by ring
      _ ≤ (i * sh.segLen + sh.segLen) * sh.channels := Nat.mul_le_mul_right _ (by omega)
      _ = (i + 1) * (sh.channels * sh.segLen) := by ring
      _ ≤ sh.slots * (sh.channels * sh.segLen) := Nat.mul_le_mul_right _ hi
  unfold wordAddress
  omega

/-- A slot position's words end within the pages of the ring. -/
theorem Shape.slotEnd_le {sh : Shape} {i : Nat} (hi : i < sh.slots) :
    wordAddress sh i 0 + sh.channels * sh.segLen ≤ (sh.basePage + sh.pageCount) * 768 := by
  have hfit := sh.slots_fit
  have hpos : i * sh.segLen * sh.channels + sh.channels * sh.segLen ≤ sh.slots * (sh.channels * sh.segLen) :=
    calc i * sh.segLen * sh.channels + sh.channels * sh.segLen = (i + 1) * (sh.channels * sh.segLen) := by ring
      _ ≤ sh.slots * (sh.channels * sh.segLen) := Nat.mul_le_mul_right _ hi
  unfold wordAddress
  rw [Nat.add_zero]
  omega

/-- Rings on separate pages lie one before the other (R23). -/
theorem Shape.apart_of_not_overlaps {a b : Shape} (h : a.overlaps b = false) :
    a.basePage + a.pageCount ≤ b.basePage ∨ b.basePage + b.pageCount ≤ a.basePage := by
  simp only [Shape.overlaps, Bool.and_eq_false_iff, decide_eq_false_iff_not] at h
  omega

/-- A frame that is present is held in a slot position of the ring, at an offset in the segment (R49). -/
theorem Stream.locate_bounds {st : Stream} {x : Origin} {i o : Nat} (h : st.locate x = some (i, o))
    (hs : 0 < st.fig.slots) (hl : 0 < st.record.shape.segLen) : i < st.fig.slots ∧ o < st.record.shape.segLen := by
  unfold Stream.locate at h
  split at h
  · cases h
  · dsimp only at h
    split at h
    · obtain ⟨rfl, rfl⟩ := Prod.mk.inj (Option.some.inj h)
      refine ⟨Nat.mod_lt _ hs, ?_⟩
      rename_i a _ _
      have hlen : (0 : Int) < st.record.shape.segLen := by exact_mod_cast hl
      have h1 := Int.fmod_nonneg_of_pos (timeDiff x a.origin) hlen
      have h2 := Int.fmod_lt_of_pos (timeDiff x a.origin) hlen
      rw [Int.fmod_def, mul_comm] at h1 h2
      omega
    · cases h

theorem Shape.segLen_pos {sh : Shape} (h : sh.inRange = true) : 0 < sh.segLen := by
  simp only [Shape.inRange, Bool.and_eq_true, Bool.or_eq_true, decide_eq_true_eq] at h
  omega

/-- In a sound table the ring of an enabled stream has the slots of its record, and at least 4 of them. -/
theorem State.TableSound.fig_slots {s : State} (h : s.TableSound) {k : StreamId} (he : (s.stream k).enabled = true) :
    (s.stream k).fig.slots = (s.stream k).record.shape.slots ∧ 4 ≤ (s.stream k).record.shape.slots := by
  obtain ⟨hf, h4⟩ := h.figures k he
  refine ⟨?_, h4⟩
  rw [Stream.fig, hf]
  rfl

/-- An enabled stream reads the same frames while its own entry and the words in its pages are the same (R43, R50). -/
theorem State.frameAt_congr {s t : State} {j : StreamId} (hj : t.stream j = s.stream j) (hs : 0 < (s.stream j).fig.slots)
    (hslots : (s.stream j).fig.slots ≤ (s.stream j).record.shape.slots) (hl : 0 < (s.stream j).record.shape.segLen)
    (hw : ∀ a, (s.stream j).record.shape.basePage * 768 ≤ a →
      a < ((s.stream j).record.shape.basePage + (s.stream j).record.shape.pageCount) * 768 → t.readWord a = s.readWord a)
    (x : Origin) : t.frameAt j x = s.frameAt j x := by
  unfold State.frameAt
  rw [hj]
  dsimp only
  cases hloc : (s.stream j).locate x with
  | none => rfl
  | some io =>
    obtain ⟨i, o⟩ := io
    obtain ⟨hi, ho⟩ := Stream.locate_bounds hloc hs hl
    have hframe (c : Fin 16) : (if c.val < (s.stream j).record.shape.channels then
          t.readWord (wordAddress (s.stream j).record.shape i o + c.val) else 0)
        = if c.val < (s.stream j).record.shape.channels then
          s.readWord (wordAddress (s.stream j).record.shape i o + c.val) else 0 := by
      split
      · rename_i hc
        obtain ⟨h1, h2⟩ := Shape.wordAddress_bounds (hi.trans_le hslots) ho hc
        exact hw _ h1 h2
      · rfl
    simp only [hframe]

/-- A segment handed over writes no word in the pages of another enabled stream (R23, R45). -/
theorem State.readWord_classify_other {s : State} (h : s.TableSound) {k j : StreamId} (hjk : j ≠ k)
    (hk : (s.stream k).enabled = true) (hj : (s.stream j).enabled = true) {p : Port} {g : Segment}
    (hg : g.samples.length = g.channels * g.frames) {a : Nat}
    (h1 : (s.stream j).record.shape.basePage * 768 ≤ a)
    (h2 : a < ((s.stream j).record.shape.basePage + (s.stream j).record.shape.pageCount) * 768) :
    (s.classify k p g).readWord a = s.readWord a := by
  have hep : (s.classify k p g).epoch = s.epoch := by simp
  rw [State.readWord, State.readWord, hep]
  rcases s.classify_mem k p g with hm | ⟨⟨hc, hf⟩, hm⟩
  · rw [hm]
  · obtain ⟨hslots, h4⟩ := h.fig_slots hk
    have hi : (s.stream k).slotOf g.seq < (s.stream k).record.shape.slots := by
      rw [Stream.slotOf, hslots]
      exact Nat.mod_lt _ (by omega)
    have hend := Shape.slotEnd_le hi
    have hbase : (s.stream k).record.shape.basePage * 768
        ≤ wordAddress (s.stream k).record.shape ((s.stream k).slotOf g.seq) 0 := Nat.le_add_right _ _
    have hapart := Shape.apart_of_not_overlaps (h.pages j k hj hk hjk)
    rw [hm, lookupKey_writeWords_outside]
    rw [hg, hc, hf]
    omega

/-- The classifier is handed what the manual says a port hands over (R7, R8, R16). -/
theorem State.handsOver_of_handed {s : State} {p : Port} {g : Segment} {k : StreamId} (h : s.handed p g = some k) :
    s.HandsOver p g k := by
  unfold State.handed State.admitted at h
  split at h
  · rename_i hc
    split at h
    · cases h
    · rename_i k' hn
      split at h
      · rename_i ha
        cases h
        simp only [Bool.and_eq_true, Bool.not_eq_true'] at hc ha
        exact ⟨hc.1, hc.2, (readStreamId_eq_some_iff _ _).mp hn, ha.1, ha.2⟩
      · cases h
  · cases h

/-- Settles O27: the segment changes its own stream, and of the words those in the pages of its stream. -/
theorem segmentLeavesOtherStreamsAlone : Obligations.SegmentLeavesOtherStreamsAlone := by
  intro s t p g k j hs hn hjk hx
  simp only [exec, execAudioSegment] at hx
  split at hx
  · cases hx
    exact ⟨rfl, fun _ _ => rfl, rfl, rfl, rfl, rfl, rfl, rfl, rfl⟩
  · rename_i k' hh
    cases hx
    have hg := State.handsOver_of_handed hh
    have hk : k' = k := Fin.ext (Nat.succ.inj (hg.names.symm.trans hn))
    subst hk
    have hstream := s.stream_classify_other hjk p g
    refine ⟨hstream, fun hj x => ?_, by simp, by simp, by simp, by simp, by simp, by simp, by simp⟩
    obtain ⟨hslots, h4⟩ := hs.fig_slots hj
    exact State.frameAt_congr hstream (by omega) hslots.le (Shape.segLen_pos (hs.ranges j))
      (fun a h1 h2 => State.readWord_classify_other hs hjk hg.enabled hj ((wellFormed_iff g).mp hg.wellFormed).2 h1 h2) x

end Sys2Proof.Machine
end

section
/-! The records of the tables, read back (R17, R113, R114, R123, R141, R192, section 12.3). -/

namespace Sys2Proof.Machine

theorem field_toBytes_self {size v : Nat} (h : v < 256 ^ size) : field (toBytes size v) 0 size = v := by
  simpa using field_toBytes [] h

/-! ### Stream records -/

theorem Stream.length_streamRecord (st : Stream) : st.streamRecord.length = 24 := by simp [Stream.streamRecord]

theorem readAdmission_code (x : Admission) : readAdmission x.code.toNat = some x := by cases x <;> rfl

theorem readFill_code (x : FillMethod) : readFill x.code.toNat = some x := by cases x <;> rfl

/-- The watch channel's byte is 255 for none, which is no channel (R17). -/
theorem readWatch_getD {x : Option Nat} (h : ∀ w, x = some w → w ≤ 15) : readWatch (x.getD 255) = x := by
  cases x with
  | none => rfl
  | some w =>
    have hw : w ≤ 15 := h w rfl
    exact if_neg (show ¬ w = 255 by omega)

/-- The numbers of a record in range fit in the bytes that section 12.3 gives them. -/
theorem StreamRecord.fits {r : StreamRecord} (h : r.inRange = true) :
    (r.shape.channels < 256 ∧ r.shape.segLen < 256 ∧ r.shape.basePage < 65536 ∧ r.shape.pageCount < 65536
        ∧ r.shape.holdDepth < 65536)
      ∧ r.tuning.starveTimeout < 256 ∧ r.tuning.holdoverLimit < 65536 ∧ r.tuning.pathTimeout < 256
        ∧ r.tuning.gain < 256 ∧ r.tuning.deadband < 256 ∧ r.tuning.rmax < 65536 ∧ (∀ w, r.tuning.watch = some w → w ≤ 15)
        ∧ r.tuning.silenceThreshold < 65536 ∧ r.tuning.silenceWindow < 65536 := by
  simp only [StreamRecord.inRange, Shape.inRange, Tuning.inRange, Bool.and_eq_true, Bool.or_eq_true,
    decide_eq_true_eq] at h
  refine ⟨by omega, by omega, by omega, by omega, by omega, by omega, by omega, fun w hw => ?_, by omega, by omega⟩
  have hwatch := h.2.1.1.1.2
  rw [hw] at hwatch
  simpa using hwatch

theorem readStreamRecord_streamRecord {st : Stream} (h : st.record.inRange = true) :
    readStreamRecord st.streamRecord = some st.record := by
  obtain ⟨⟨channels, segLen, basePage, pageCount, holdDepth⟩, starve, limit, timeout, gain, deadband, rmax, watch,
    threshold, window⟩ := StreamRecord.fits h
  have hwatch : st.record.tuning.watch.getD 255 < 256 := by
    cases hw : st.record.tuning.watch with
    | none => decide
    | some w =>
      have hle := watch w hw
      show w < 256
      omega
  rw [← Stream.recordBytes_eq]
  simp [readStreamRecord, Stream.recordBytes, flagByte_eq, List.append_assoc, field_append_right, field_toBytes,
    field_toBytes_self, readAdmission_code, readFill_code, readWatch_getD watch, *]

/-! ### Route records, cover entries and pattern entries -/

theorem RouteRecord.length_routeRecord (r : RouteRecord) : r.routeRecord.length = 11 := by simp [RouteRecord.routeRecord]

theorem readSource_code (x : SourceKind) : readSource x.code.toNat = some x := by cases x <;> rfl

theorem readEnableSource_code (x : EnableSource) : readEnableSource x.code.toNat = some x := by cases x <;> rfl

theorem readFin_val {n : Nat} (i : Fin n) : readFin n i.val = some i := by simp [readFin]

theorem readStreamId_number (k : StreamId) : readStreamId (k.val + 1) = some k := (readStreamId_eq_some_iff _ k).mpr rfl

theorem readRouteRecord_routeRecord (r : RouteRecord) : readRouteRecord r.routeRecord = some r := by
  have stream : r.stream.val + 1 < 256 := by have := r.stream.isLt; omega
  have channel : r.channel.val < 256 := by have := r.channel.isLt; omega
  have slot : r.slot.val < 256 := r.slot.isLt
  have gain : r.gain.val < 65536 := by have := r.gain.isLt; omega
  have cutLine : r.cutLine.val < 256 := by have := r.cutLine.isLt; omega
  rw [← RouteRecord.toBytes_eq]
  simp [readRouteRecord, readRouteKinds, readRouteNumbers, RouteRecord.toBytes, flagByte_eq, List.append_assoc,
    field_append_right, field_toBytes, readFlag_flagOf, readSource_code, readEnableSource_code, readFin_val,
    readStreamId_number, *]

theorem CoverEntry.length_coverRecord (e : CoverEntry) : e.coverRecord.length = 3 := by simp [CoverEntry.coverRecord]

theorem readCoverEntry_coverRecord {e : CoverEntry} (h : e.primary ≠ e.cover) : readCoverEntry e.coverRecord = some e := by
  have primary : e.primary.val + 1 < 256 := by have := e.primary.isLt; omega
  have cover : e.cover.val + 1 < 256 := by have := e.cover.isLt; omega
  simp [readCoverEntry, CoverEntry.coverRecord, field_append_right, field_toBytes, field_toBytes_self, readFlag_flagOf,
    readStreamId_number, *]

theorem readPatternEntry_toBytes (v : Sample) : readPatternEntry (toBytes 3 v.toNat) = some v := by
  have h : field (toBytes 3 v.toNat) 0 3 = v.toNat := field_toBytes_self (v.isLt.trans_le (by decide))
  rw [readPatternEntry, h, BitVec.ofNat_toNat, BitVec.setWidth_eq]

/-- Settles O12, record by record. -/
theorem tableRecordsReadBack : Obligations.TableRecordsReadBack :=
  ⟨fun st h => ⟨st.length_streamRecord, readStreamRecord_streamRecord h⟩,
    fun r => ⟨r.length_routeRecord, readRouteRecord_routeRecord r⟩,
    fun e h => ⟨e.length_coverRecord, readCoverEntry_coverRecord h⟩,
    readPatternEntry_toBytes⟩

end Sys2Proof.Machine
end

section
/-! The in-force copy and the boundary stage (R19, R20, R70, R72, R84 to R86). -/

namespace Sys2Proof.Machine

/-! ### The in-force copy -/

/-- Settles O32: the copy is due, or nothing happens; and a boundary's hand-over keeps the tuning in force before it. -/
theorem inForceTuningIsCopiedAtTheBoundary : Obligations.InForceTuningIsCopiedAtTheBoundary := by
  intro s
  refine ⟨fun hr hd => ⟨{ s.mapStreams Stream.copyTuning with copyDue := false }, ?_, fun k => ?_, rfl, ?_, fun k => ?_⟩,
    fun h => ?_, fun k tb hp => ?_⟩
  · simp [exec, execInForceTuningCopy, hr, hd]
  · exact s.stream_mapStreams k Stream.copyTuning
  · simp [exec, execInForceTuningCopy]
  · exact (congrArg Stream.closing (s.stream_mapStreams k Stream.copyTuning) :)
  · rcases h with h | h <;> simp [exec, execInForceTuningCopy, h]
  · simp [State.handedFrame, State.stream, hp]

/-! ### The boundary stage -/

section
variable {s : State} {k : StreamId}

theorem State.boundaryStage_playing (h : (s.stream k).state = .playing) : s.boundaryStage k =
    if (s.stream k).starves then
      (s.modStream k fun t => { t with quiet := (s.stream k).quietAdvanced, state := .holdover, holdover := 0 }).raise k
        .starved
    else s.modStream k fun t => { t with quiet := (s.stream k).quietAdvanced } := by
  simp only [State.boundaryStage, h]
  split
  · exact congrArg (·.raise k .starved) (State.modStream_congr rfl)
  · exact State.modStream_congr rfl

theorem State.boundaryStage_holdover (h : (s.stream k).state = .holdover) : s.boundaryStage k =
    if (s.stream k).holdoverEnds then s.relocked k
    else s.modStream k fun t =>
      { t with quiet := (s.stream k).quietAdvanced, holdover := (s.stream k).holdoverAdvanced } := by
  simp only [State.boundaryStage, h, State.relock_eq]
  split
  · rfl
  · exact State.modStream_congr rfl

theorem Stream.starves_iff (st : Stream) : st.starves = true ↔
    st.state = .playing ∧ st.accepted = false ∧ st.closing.starveTimeout ≤ min (st.quiet + 1) 65535 := by
  simp [Stream.starves, Stream.quietAdvanced, and_assoc]

theorem Stream.holdoverEnds_iff (st : Stream) : st.holdoverEnds = true ↔
    st.state = .holdover ∧ st.closing.holdoverLimit ≤ min (st.holdover + 1) 65535 := by
  simp [Stream.holdoverEnds, Stream.holdoverAdvanced]

/-- The playout engine's work for a stream is due at a block boundary. -/
structure State.BoundaryWorkDue (s : State) (k : StreamId) : Prop where
  arises : s.playoutArises k = true
  boundary : s.atBoundary = true

section
variable (h : s.BoundaryWorkDue k)
include h

theorem State.BoundaryWorkDue.exec_playoutEngineWork :
    exec (.playoutEngineWork k) s = .next ((s.boundaryStage k).frameStage k) := by
  simp [exec, execPlayoutEngineWork, h.arises, State.playoutWork, h.boundary]

theorem State.BoundaryWorkDue.exec_starveTimeout : exec (.starveTimeout k) s =
    .next (if (s.stream k).starves then (s.boundaryStage k).frameStage k else s) := by
  simp [exec, execStarveTimeout, h.arises, State.playoutWork, h.boundary]

theorem State.BoundaryWorkDue.exec_holdoverLimitRelock : exec (.holdoverLimitRelock k) s =
    .next (if (s.stream k).holdoverEnds then (s.boundaryStage k).frameStage k else s) := by
  simp [exec, execHoldoverLimitRelock, h.arises, State.playoutWork, h.boundary]

end
end

/-- Settles O38: by the state of the stream, and by whether its limit is reached. -/
theorem boundaryStageStarvesAndRelocks : Obligations.BoundaryStageStarvesAndRelocks := by
  intro s k hr hf hp
  have h : s.BoundaryWorkDue k := ⟨by simp [State.playoutArises, hr, hf], by simp [State.atBoundary, hp]⟩
  rw [h.exec_playoutEngineWork, h.exec_starveTimeout, h.exec_holdoverLimitRelock]
  refine ⟨fun hs hlow => ?_, fun hs ha hlimit => ?_, fun hs hlow => ?_, fun hs hlimit => ?_⟩
  · have hn : ¬ (s.stream k).starves = true := by
      rw [Stream.starves_iff]
      rintro ⟨-, ha, hlimit⟩
      rcases hlow with ha' | hlow
      · simp [ha] at ha'
      · exact absurd hlimit (by omega)
    rw [s.boundaryStage_playing hs, if_neg hn, if_neg hn]
    exact ⟨rfl, rfl⟩
  · have hy : (s.stream k).starves = true := (s.stream k).starves_iff.mpr ⟨hs, ha, hlimit⟩
    rw [s.boundaryStage_playing hs, if_pos hy, if_pos hy]
    exact ⟨rfl, rfl⟩
  · have hn : ¬ (s.stream k).holdoverEnds = true := by
      rw [Stream.holdoverEnds_iff]
      rintro ⟨-, hlimit⟩
      exact absurd hlimit (by omega)
    rw [s.boundaryStage_holdover hs, if_neg hn, if_neg hn]
    exact ⟨rfl, rfl⟩
  · have hy : (s.stream k).holdoverEnds = true := (s.stream k).holdoverEnds_iff.mpr ⟨hs, hlimit⟩
    rw [s.boundaryStage_holdover hs, if_pos hy, if_pos hy]
    exact ⟨rfl, rfl⟩

end Sys2Proof.Machine
end

section
/-! The route matrix: the driver of a slot, and the event that forms every slot (R128 to R133, R139, R140). -/

namespace Sys2Proof.Machine

/-! ### The driver of a slot -/

/-- Finding in a vector is finding the index, and taking what stands there. -/
theorem find?_toList_eq_find?_finRange {α : Type} {n : Nat} (v : Vector α n) (p : α → Bool) :
    v.toList.find? p = ((List.finRange n).find? fun i => p v[i]).map fun i => v[i] := by
  have h : v.toList = (List.finRange n).map fun i => v[i] :=
    List.ext_getElem (by simp) fun i _ _ => by simp
  rw [h, List.find?_map]
  rfl

theorem RouteRecord.driver_eq (r : RouteRecord) :
    r.driver = { source := if r.source = .pattern then .pattern else .stream r.stream r.channel, gain := r.gain } := by
  unfold RouteRecord.driver
  cases r.source <;> rfl

/-- The driver's identity is that of the lowest-numbered route in use that names the slot. -/
theorem driverOf_eq_drivenBy (b : Bank) (j : SlotId) : driverOf b j = drivenBy b j := by
  rw [driverOf, driverRoute, find?_toList_eq_find?_finRange]
  simp only [drivenBy, RouteRecord.names]
  cases (List.finRange 256).find? fun n => b[n].inUse && decide (b[n].slot = j) with
  | none => rfl
  | some n => exact congrArg some b[n].driver_eq

/-! ### The event -/

/-- The event forms the slots and the values that `stepSlot` and `slotSum` give. -/
theorem State.formSlots_eq {s : State} {slot : SlotId → Slot} {value : SlotId → Sample}
    (hslot : ∀ j : SlotId, s.stepSlot s.matrix.slots[j] (driverRoute s.matrix.activeBank j) = slot j)
    (hvalue : ∀ j, slotValue (s.slotSum (slot j).transition (driverOf s.matrix.activeBank j) (slot j).fade) = value j) :
    s.formSlots = { s with
      matrix := { s.matrix with due := false, slots := Vector.ofFn slot }
      bus := { s.bus with formed0 := some (Vector.ofFn value) } } := by
  simp only [Fin.getElem_fin] at hslot
  simp only [State.formSlots, Fin.getElem_fin, Vector.getElem_ofFn, Fin.eta, hslot, hvalue]

theorem State.matrixArises_iff (s : State) : s.matrixArises = true ↔
    s.pins.resetLine = false ∧ s.matrix.due = true ∧ ∀ k, (s.stream k).frameDue = false := by
  simp only [State.matrixArises, Bool.and_eq_true, Bool.not_eq_true', List.all_eq_true, and_assoc]
  refine and_congr_right fun _ => and_congr_right fun _ => ⟨fun h k => ?_, fun h st hst => ?_⟩
  · exact h s.streams[k] (by simp)
  · obtain ⟨i, hi, rfl⟩ := List.getElem_of_mem hst
    exact h ⟨i, by simpa using hi⟩

theorem State.exec_routeMatrixEvent (s : State) :
    exec .routeMatrixEvent s = .next (if s.matrixArises then s.matrixWork else s) := rfl

/-- Settles O41: the driver is the model's, and the open condition, the step and the value follow from it. -/
theorem routeMatrixFormsEverySlot : Obligations.RouteMatrixFormsEverySlot := by
  intro s b driver mutes opens level sample part sum rounded value
  have hopens (j : SlotId) : s.openUnder (driver j) = opens j := by
    simp only [opens]
    cases driver j with
    | none => rfl
    | some r =>
      have he : s.matrix.enableHolds r
          = if r.enableSource = .own then r.ownEnable else s.matrix.cutHeld.getLsbD r.cutLine.val := by
        unfold Matrix.enableHolds
        cases r.enableSource <;> rfl
      exact congrArg (· && !s.automuteHolds r) he
  have hsum (j : SlotId) :
      s.slotSum s.matrix.slots[j].transition (driverOf b j) (level j) = sum j := by
    rw [driverOf_eq_drivenBy]
    rfl
  refine ⟨State.formSlots_eq (fun j => ?_) fun j => ?_, fun hr hd hall hp => ?_, driverOf_eq_drivenBy, fun h => ?_⟩
  · have hstep : fadeStep (s.openUnder (driver j)) s.matrix.slots[j].fade = level j := by
      rw [hopens j]
      rfl
    simp only [← hopens, ← hstep]
    rfl
  · exact congrArg slotValue (hsum j)
  · rw [State.exec_routeMatrixEvent, if_pos (s.matrixArises_iff.mpr ⟨hr, hd, hall⟩), State.matrixWork, if_neg hp]
  · rw [State.exec_routeMatrixEvent, if_neg]
    rw [State.matrixArises_iff]
    rintro ⟨hr, hd, hall⟩
    rcases h with h | h | ⟨k, h⟩
    · simp [hr] at h
    · simp [hd] at h
    · simp [hall k] at h

end Sys2Proof.Machine
end

section
/-! The requests ENABLE, DISABLE and RELOCK (R22 to R26, R75, R184). -/

namespace Sys2Proof.Machine

/-! ### The streams that a request names -/

theorem pairwise_lt_named (index count : Nat) : (named index count).Pairwise (· < ·) := List.pairwise_lt_range'

/-- The named streams stand in ascending index. -/
theorem pairwise_lt_namedStreams (index count : Nat) : (namedStreams index count).Pairwise (· < ·) := by
  refine (pairwise_lt_named index count).filterMap readStreamId fun v w hvw j hj k hk => ?_
  rw [readStreamId_eq_some_iff] at hj hk
  show j.val < k.val
  omega

theorem namedStreams_eq_filter (index count : Nat) : namedStreams index count =
    (List.finRange 64).filter fun k => decide (index ≤ k.val + 1) && decide (k.val + 1 < index + count) :=
  (pairwise_lt_namedStreams index count).eq_of_mem_iff ((List.sortedLT_finRange 64).pairwise.filter _)
    fun k => by simp [mem_namedStreams]

/-- A request for streams that the part takes, unprotected, with an index and a count that name streams, is executed where
its data suffices. -/
theorem State.handle_streamRequest {s : State} {code : Byte} {m : Envelope} {k : RequestKind}
    (hk : requestKind code = some k) (ha : k.applies 1 = true) (h : s.Takes ⟨code, 1, m⟩) (hp : s.pins.protect = false)
    (hi : Request.indexPasses ⟨code, 1, m⟩ k = indexOk .stream m.index.toNat m.count.toNat) (hn : Names m 1 64)
    (hd : Request.dataPasses ⟨code, 1, m⟩ k = true) :
    s.handle ⟨code, 1, m⟩ = (s.take ⟨code, 1, m⟩).execute ⟨code, 1, m⟩ k := by
  rw [h.handle, State.decideRequest_executes hk (.inl (by simpa using hp)) ha (hi.trans (Names.indexOk (o := .stream) hn)) hd]

/-! ### DISABLE and RELOCK -/

theorem State.execute_disable (s : State) (r : Request) : s.execute r .disable =
    (s.modStreams (namedStreams r.index r.count) fun st => if st.enabled then st.disable else st).answer r .ok [] := rfl

theorem State.execute_relock (s : State) (r : Request) :
    s.execute r .relock = (s.relockAll (namedStreams r.index r.count)).answer r .ok [] := rfl

theorem State.enabled_relocked (s : State) (k j : StreamId) :
    ((s.relocked k).stream j).enabled = (s.stream j).enabled := by
  rw [← State.relock_eq, State.stream_relock]
  split
  · rename_i hj
    subst hj
    rfl
  · rfl

/-- A relock leaves every enabled flag, so the streams that relock are those enabled beforehand. -/
theorem State.relockAll_eq {s t : State} (ks : List StreamId) (h : ∀ j, (t.stream j).enabled = (s.stream j).enabled) :
    t.relockAll ks = (ks.filter fun k => (s.stream k).enabled).foldl (fun u k => u.relocked k) t := by
  induction ks generalizing t with
  | nil => rfl
  | cons k ks ih =>
    have hstep : t.relockAll (k :: ks) = State.relockAll (if (t.stream k).enabled then t.relock k else t) ks := rfl
    rw [hstep, h k, State.relock_eq, List.filter_cons]
    split
    · exact ih fun j => (t.enabled_relocked k j).trans (h j)
    · exact ih h

/-- Settles O54: each request changes the named streams that are enabled, and then answers. -/
theorem disableAndRelockTheNamedStreams : Obligations.DisableAndRelockTheNamedStreams := by
  refine fun s m hp hn => ⟨fun h => congrArg Host.Outcome.next ?_, fun h => congrArg Host.Outcome.next ?_⟩
  · rw [State.handle_streamRequest (k := .disable) rfl rfl h hp rfl hn rfl, State.execute_disable,
      State.modStreams_named]
    refine congrArg (fun v => State.answer { s.take ⟨4, 1, m⟩ with streams := v } ⟨4, 1, m⟩ .ok [])
      (congrArg Vector.ofFn (funext fun k => ?_))
    simp only [State.stream_take, ite_and]
    rfl
  · rw [State.handle_streamRequest (k := .relock) rfl rfl h hp rfl hn rfl, State.execute_relock]
    rw [State.relockAll_eq (s := s) _ fun j => congrArg Stream.enabled (s.stream_take _ j)]
    simp only [Request.index, Request.count, namedStreams_eq_filter, List.filter_filter, Bool.and_comm]

/-! ### ENABLE -/

/-- In a list in ascending order, what holds of every two elements in a row holds of every two of which one is less. -/
theorem pairwise_iff_of_pairwise_lt {α : Type} [LinearOrder α] {l : List α} (hl : l.Pairwise (· < ·)) (r : α → α → Prop) :
    l.Pairwise r ↔ ∀ b ∈ l, ∀ a ∈ l, a < b → r a b := by
  induction l with
  | nil => simp
  | cons x xs ih =>
    obtain ⟨hx, hxs⟩ := List.pairwise_cons.mp hl
    simp only [List.pairwise_cons, ih hxs, List.forall_mem_cons, lt_irrefl, false_implies, true_and]
    constructor
    · rintro ⟨h, hall⟩
      exact ⟨fun a ha hlt => absurd (hx a ha) hlt.not_gt, fun b hb => ⟨fun _ => h b hb, hall b hb⟩⟩
    · rintro ⟨-, hall⟩
      exact ⟨fun b hb => (hall b hb).1 (hx b hb), fun b hb => (hall b hb).2⟩

/-- The overlaps that refuse an ENABLE: with the pages of an enabled stream, or of a named one of lower index. -/
theorem State.anyOverlap_namedStreams (s : State) (i n : Nat) : s.anyOverlap [] (namedStreams i n) = true ↔
    ∃ j k : StreamId, (i ≤ k.val + 1 ∧ k.val + 1 < i + n)
      ∧ ((s.stream j).enabled = true ∨ ((i ≤ j.val + 1 ∧ j.val + 1 < i + n) ∧ j < k))
      ∧ (s.stream j).record.shape.overlaps (s.stream k).record.shape = true := by
  rw [← not_iff_not, Bool.not_eq_true, State.anyOverlap_eq_false_iff,
    pairwise_iff_of_pairwise_lt (pairwise_lt_namedStreams i n)]
  simp only [mem_namedStreams, List.not_mem_nil, or_false]
  constructor
  · rintro ⟨he, hk⟩ ⟨j, k, hnk, hj | ⟨hnj, hlt⟩, ho⟩
    · rw [he k hnk j hj] at ho
      cases ho
    · rw [hk k hnk j hnj hlt] at ho
      cases ho
  · intro h
    refine ⟨fun k hnk j hj => ?_, fun k hnk j hnj hlt => ?_⟩
    · exact Bool.not_eq_true _ ▸ fun ho => h ⟨j, k, hnk, .inl hj, ho⟩
    · exact Bool.not_eq_true _ ▸ fun ho => h ⟨j, k, hnk, .inr ⟨hnj, hlt⟩, ho⟩

section
variable {s : State} {r : Request} {res : Result}

/-- An ENABLE that is refused changes nothing. -/
theorem State.doEnable_refused (h : s.enableResult (namedStreams r.index r.count) = res) (hx : res.executed = false) :
    s.doEnable r = s.answer r res [] := by
  subst h
  simp [State.doEnable, hx]

/-- An ENABLE that is executed enables every named stream with its figures. -/
theorem State.doEnable_executed (h : s.enableResult (namedStreams r.index r.count) = res) (hx : res.executed = true) :
    s.doEnable r = State.answer
      (s.modStreams (namedStreams r.index r.count) fun st => st.enable st.record.shape.figures) r res [] := by
  subst h
  simp [State.doEnable, hx]

end

section
variable {s : State} {i n : Nat}

/-- STATE: a named stream is enabled. -/
theorem State.enableResult_state (h : ∃ k : StreamId, (i ≤ k.val + 1 ∧ k.val + 1 < i + n) ∧ (s.stream k).enabled = true) :
    s.enableResult (namedStreams i n) = .state := by
  have : ((namedStreams i n).any fun k => (s.stream k).enabled) = true := by
    simpa only [List.any_eq_true, mem_namedStreams] using h
  rw [State.enableResult, if_pos this]

/-- The outcome of an ENABLE that names no enabled stream. -/
theorem State.enableResult_disabled
    (h : ¬ ∃ k : StreamId, (i ≤ k.val + 1 ∧ k.val + 1 < i + n) ∧ (s.stream k).enabled = true) :
    s.enableResult (namedStreams i n) =
      if ∃ k : StreamId, (i ≤ k.val + 1 ∧ k.val + 1 < i + n) ∧ (s.stream k).record.shape.pageCount * 768
        / ((s.stream k).record.shape.channels * (s.stream k).record.shape.segLen) < 4 then .badValue
      else if s.anyOverlap [] (namedStreams i n) then .overlap
      else if ∃ k : StreamId, (i ≤ k.val + 1 ∧ k.val + 1 < i + n) ∧ (s.stream k).record.shape.figures.capacity
        - 2 * (s.stream k).record.shape.segLen < (s.stream k).record.shape.holdDepth then .clamped
      else .ok := by
  have : ¬ ((namedStreams i n).any fun k => (s.stream k).enabled) = true := by
    simpa only [List.any_eq_true, mem_namedStreams] using h
  rw [State.enableResult, if_neg this]
  simp only [List.any_eq_true, mem_namedStreams, decide_eq_true_eq, Shape.slots_lt_four_iff, Shape.clampsH, Shape.figures]
  congr

end

/-- Settles O52: the three refusals in their order, and then what every named stream takes. -/
theorem enableFixesFiguresOrRefuses : Obligations.EnableFixesFiguresOrRefuses := by
  intro s m h hp hn r i n u named size words figures enabled small shares
  have hexec : exec (.enable m) s = .next (u.doEnable r) :=
    congrArg Host.Outcome.next (State.handle_streamRequest (k := .enable) rfl rfl h hp rfl hn rfl)
  have hres : u.enableResult (namedStreams i n) = s.enableResult (namedStreams i n) :=
    State.enableResult_congr (by simp [u]) _
  rw [hexec]
  refine ⟨fun he => ?_, fun he hs => ?_, fun he hs ho => ?_, fun he hs ho => ?_⟩
  · rw [State.doEnable_refused (hres.trans (State.enableResult_state he)) rfl]
  · rw [State.doEnable_refused (hres.trans ((State.enableResult_disabled he).trans (if_pos hs))) rfl]
  · have := (State.enableResult_disabled he).trans ((if_neg hs).trans (if_pos ((s.anyOverlap_namedStreams i n).mpr ho)))
    rw [State.doEnable_refused (hres.trans this) rfl]
  · have hf := (State.enableResult_disabled he).trans
      ((if_neg hs).trans (if_neg (mt (s.anyOverlap_namedStreams i n).mp ho)))
    refine ⟨_, congrArg Host.Outcome.next (State.doEnable_executed (hres.trans hf) ?_), rfl, fun k hk => ?_, fun k hk => ?_⟩
    · split <;> rfl
    · rw [State.stream_modStreams, if_neg (mt (mem_namedStreams r.index r.count k).mp hk), State.stream_take]
    · rw [State.stream_modStreams, if_pos ((mem_namedStreams r.index r.count k).mpr hk), State.stream_take]
      rfl

end Sys2Proof.Machine
end

section
/-! The request WRITE of STREAM (R17 to R20, R183, R192, section 12.3). -/

namespace Sys2Proof.Machine

/-! ### One record -/

theorem readAdmission_isSome_iff : ∀ n, (readAdmission n).isSome = true ↔ 1 ≤ n ∧ n ≤ 3
  | 0 => by decide
  | 1 => by decide
  | 2 => by decide
  | 3 => by decide
  | n + 4 => by simp [readAdmission]

theorem readFill_isSome_iff : ∀ n, (readFill n).isSome = true ↔ n ≤ 2
  | 0 => by decide
  | 1 => by decide
  | 2 => by decide
  | n + 3 => by simp [readFill]

/-- A watch channel is in range where its byte is 0 to 15, or 255 for NONE. -/
theorem readWatch_le_iff (n : Nat) : (∀ w, readWatch n = some w → w ≤ 15) ↔ n ≤ 15 ∨ n = 255 := by
  unfold readWatch
  split
  · simp_all
  · simp_all

theorem Shape.inRange_iff (sh : Shape) : sh.inRange = true ↔
    1 ≤ sh.channels ∧ sh.channels ≤ 16 ∧ (sh.segLen = 6 ∨ sh.segLen = 12 ∨ sh.segLen = 24 ∨ sh.segLen = 48)
      ∧ 1 ≤ sh.pageCount ∧ sh.basePage + sh.pageCount ≤ 2048 ∧ 12 ≤ sh.holdDepth ∧ sh.holdDepth ≤ 32767 := by
  simp only [Shape.inRange, Bool.and_eq_true, Bool.or_eq_true, decide_eq_true_eq, and_assoc, or_assoc]

theorem Tuning.inRange_iff (t : Tuning) : t.inRange = true ↔
    1 ≤ t.starveTimeout ∧ t.starveTimeout ≤ 255 ∧ 1 ≤ t.holdoverLimit ∧ t.holdoverLimit ≤ 65535
      ∧ 1 ≤ t.pathTimeout ∧ t.pathTimeout ≤ 255 ∧ t.gain ≤ 15 ∧ t.deadband ≤ 255 ∧ t.rmax ≤ 65535
      ∧ (∀ w, t.watch = some w → w ≤ 15) ∧ t.silenceThreshold ≤ 65535 ∧ 1 ≤ t.silenceWindow
      ∧ t.silenceWindow ≤ 65535 := by
  unfold Tuning.inRange
  cases t.watch <;> simp only [Bool.and_eq_true, decide_eq_true_eq, and_assoc, reduceCtorEq, Option.some.injEq, forall_eq',
    false_implies, implies_true]

/-- A record is read where its two codes are known and the record they make is in range. -/
theorem readStreamRecord_isSome_iff (b : List Byte) : (readStreamRecord b).isSome = true ↔
    1 ≤ field b 1 1 ∧ field b 1 1 ≤ 16
      ∧ (field b 2 1 = 6 ∨ field b 2 1 = 12 ∨ field b 2 1 = 24 ∨ field b 2 1 = 48)
      ∧ 1 ≤ field b 5 2 ∧ field b 3 2 + field b 5 2 ≤ 2048 ∧ 12 ≤ field b 7 2 ∧ field b 7 2 ≤ 32767
      ∧ 1 ≤ field b 9 1 ∧ field b 9 1 ≤ 3 ∧ 1 ≤ field b 10 1 ∧ 1 ≤ field b 11 2 ∧ 1 ≤ field b 13 1
      ∧ field b 14 1 ≤ 2 ∧ field b 15 1 ≤ 15 ∧ (field b 19 1 ≤ 15 ∨ field b 19 1 = 255) ∧ 1 ≤ field b 22 2 := by
  have hadm := readAdmission_isSome_iff (field b 9 1)
  have hfill := readFill_isSome_iff (field b 14 1)
  unfold readStreamRecord
  cases ha : readAdmission (field b 9 1) with
  | none =>
    rw [ha] at hadm
    simp at hadm ⊢
    omega
  | some adm =>
    cases hl : readFill (field b 14 1) with
    | none =>
      rw [hl] at hfill
      simp at hfill ⊢
      omega
    | some fill =>
      rw [ha] at hadm
      rw [hl] at hfill
      have hadm := hadm.mp rfl
      have hfill := hfill.mp rfl
      have h10 : field b 10 1 < 256 := field_lt b 10 1
      have h11 : field b 11 2 < 65536 := field_lt b 11 2
      have h13 : field b 13 1 < 256 := field_lt b 13 1
      have h16 : field b 16 1 < 256 := field_lt b 16 1
      have h17 : field b 17 2 < 65536 := field_lt b 17 2
      have h20 : field b 20 2 < 65536 := field_lt b 20 2
      have h22 : field b 22 2 < 65536 := field_lt b 22 2
      simp only [Option.isSome_ite, StreamRecord.inRange, Bool.and_eq_true, Shape.inRange_iff, Tuning.inRange_iff,
        readWatch_le_iff]
      omega

/-! ### A run of records -/

theorem readRecords_succ_eq_some_iff {α : Type} {read : List Byte → Option α} {size n : Nat} {b : List Byte}
    {rs : List α} : readRecords read size (n + 1) b = some rs ↔
      ∃ r tail, read (b.take size) = some r ∧ readRecords read size n (b.drop size) = some tail ∧ rs = r :: tail := by
  rw [readRecords]
  split
  · rename_i hr hrs
    simp [hr, hrs, eq_comm]
  · rename_i hn
    simp only [reduceCtorEq, false_iff]
    rintro ⟨r, tail, hr, ht, -⟩
    exact hn r tail hr ht

/-- The records of a run are read one after another, each from its own bytes. -/
theorem getElem?_of_readRecords {α : Type} {read : List Byte → Option α} {size n : Nat} {b : List Byte} {rs : List α}
    (h : readRecords read size n b = some rs) :
    rs.length = n ∧ ∀ j, j < n → rs[j]? = read ((b.drop (j * size)).take size) := by
  induction n generalizing b rs with
  | zero =>
    cases h
    exact ⟨rfl, fun j hj => absurd hj (Nat.not_lt_zero j)⟩
  | succ n ih =>
    obtain ⟨r, tail, hr, ht, rfl⟩ := readRecords_succ_eq_some_iff.mp h
    obtain ⟨hlen, hget⟩ := ih ht
    refine ⟨by simp [hlen], fun j hj => ?_⟩
    cases j with
    | zero => simpa using hr.symm
    | succ j =>
      rw [List.getElem?_cons_succ, hget j (by omega), List.drop_drop, Nat.succ_mul, Nat.add_comm]

/-- A run of records is refused where one of them is. -/
theorem readRecords_eq_none_iff {α : Type} (read : List Byte → Option α) (size n : Nat) (b : List Byte) :
    readRecords read size n b = none ↔ ∃ j, j < n ∧ read ((b.drop (j * size)).take size) = none := by
  constructor
  · induction n generalizing b with
    | zero => intro h; cases h
    | succ n ih =>
      intro h
      cases hr : read (b.take size) with
      | none => exact ⟨0, by omega, by simpa using hr⟩
      | some r =>
        cases ht : readRecords read size n (b.drop size) with
        | some tail => simp [readRecords, hr, ht] at h
        | none =>
          obtain ⟨j, hj, hn⟩ := ih _ ht
          rw [List.drop_drop, Nat.add_comm, ← Nat.succ_mul] at hn
          exact ⟨j + 1, by omega, hn⟩
  · rintro ⟨j, hj, hn⟩
    cases h : readRecords read size n b with
    | none => rfl
    | some rs =>
      obtain ⟨hlen, hget⟩ := getElem?_of_readRecords h
      have := hget j hj
      rw [hn, List.getElem?_eq_none_iff] at this
      omega

/-! ### The streams that a WRITE names, with their new records -/

theorem namedStreams_succ {i n : Nat} (h : 1 ≤ i) (h' : i ≤ 64) :
    namedStreams i (n + 1) = ⟨i - 1, by omega⟩ :: namedStreams (i + 1) n := by
  have hr : readStreamId i = some ⟨i - 1, by omega⟩ := (readStreamId_eq_some_iff _ _).mpr (by simp; omega)
  simp [namedStreams, named, List.range'_succ, hr]

/-- The record that a WRITE has for a stream is that of its number's place in the run. -/
theorem lookup_zip_namedStreams {α : Type} {i n : Nat} {rs : List α} (h : 1 ≤ i) (h' : i + n ≤ 65) (hn : rs.length = n)
    (k : StreamId) :
    ((namedStreams i n).zip rs).lookup k = if i ≤ k.val + 1 then rs[k.val + 1 - i]? else none := by
  induction n generalizing i rs with
  | zero =>
    obtain rfl := List.length_eq_zero_iff.mp hn
    simp
  | succ n ih =>
    obtain ⟨r, rs, rfl⟩ := List.exists_cons_of_length_eq_add_one hn
    rw [namedStreams_succ h (by omega), List.zip_cons_cons, List.lookup_cons, ih (by omega) (by omega) (by simpa using hn)]
    have hk := k.isLt
    by_cases he : k.val + 1 = i
    · have hb : (k == ⟨i - 1, by omega⟩) = true := by
        simp only [beq_iff_eq, Fin.ext_iff]
        omega
      rw [hb, if_pos he.ge, he, Nat.sub_self, List.getElem?_cons_zero]
    · have hb : (k == ⟨i - 1, by omega⟩) = false := by
        simp only [beq_eq_false_iff_ne, ne_eq, Fin.ext_iff]
        omega
      rw [hb]
      dsimp only
      by_cases hle : i + 1 ≤ k.val + 1
      · obtain ⟨d, hd⟩ : ∃ d, k.val + 1 = i + 1 + d := ⟨k.val - i, by omega⟩
        rw [if_pos hle, if_pos (by omega), hd, show i + 1 + d - (i + 1) = d by omega, show i + 1 + d - i = d + 1 by omega,
          List.getElem?_cons_succ]
      · rw [if_neg hle, if_neg (by omega)]

theorem length_namedStreams {i n : Nat} (h : 1 ≤ i) (h' : i + n ≤ 65) : (namedStreams i n).length = n := by
  induction n generalizing i with
  | zero => rfl
  | succ n ih => rw [namedStreams_succ h (by omega), List.length_cons, ih (by omega) (by omega)]

/-- Where no key stands twice, a pair of the list is what its key finds. -/
theorem lookup_eq_some_iff_mem {α β : Type} [BEq α] [LawfulBEq α] {l : List (α × β)} (hl : (l.map Prod.fst).Nodup) {a : α}
    {b : β} : l.lookup a = some b ↔ (a, b) ∈ l := by
  refine ⟨mem_of_lookup, fun h => ?_⟩
  obtain ⟨l₁, l₂, rfl⟩ := List.append_of_mem h
  refine List.lookup_eq_some_iff.mpr ⟨l₁, l₂, rfl, fun p hp => ?_⟩
  rw [List.map_append, List.nodup_append] at hl
  simpa using (hl.2.2 p.1 (List.mem_map_of_mem hp) a (by simp)).symm

/-- A WRITE has a record for a stream where its number stands in the run. -/
theorem mem_zip_namedStreams {α : Type} {i n : Nat} {rs : List α} (h : 1 ≤ i) (h' : i + n ≤ 65) (hn : rs.length = n)
    (k : StreamId) (w : α) : (k, w) ∈ (namedStreams i n).zip rs ↔ i ≤ k.val + 1 ∧ rs[k.val + 1 - i]? = some w := by
  have hl : (namedStreams i n).length ≤ rs.length := by rw [length_namedStreams h h', hn]
  have hd : (((namedStreams i n).zip rs).map Prod.fst).Nodup := by
    rw [List.map_fst_zip hl]
    exact (pairwise_lt_namedStreams i n).imp fun hlt => hlt.ne
  rw [← lookup_eq_some_iff_mem hd, lookup_zip_namedStreams h h' hn, Option.ite_none_right_eq_some]

/-! ### WRITE of STREAM -/

section
variable {s : State} {i n : Nat} {rs : List StreamRecord} (h : 1 ≤ i) (h' : i + n ≤ 65) (hn : rs.length = n)
include h h' hn

/-- A WRITE conflicts where it would change a structural field of an enabled record. -/
theorem State.any_shapeConflict_iff : ((namedStreams i n).zip rs).any s.shapeConflict = true ↔
    ∃ (k : StreamId) (w : StreamRecord), i ≤ k.val + 1 ∧ rs[k.val + 1 - i]? = some w
      ∧ (s.stream k).enabled = true ∧ w.shape ≠ (s.stream k).record.shape := by
  simp only [List.any_eq_true, Prod.exists, mem_zip_namedStreams h h' hn, State.shapeConflict, Bool.and_eq_true,
    Bool.not_eq_true', decide_eq_false_iff_not, ne_eq, and_assoc]

theorem State.streamWriteResult_fits (hc : ¬ ((namedStreams i n).zip rs).any s.shapeConflict = true) :
    s.streamWriteResult ((namedStreams i n).zip rs)
      = if ∃ w ∈ rs, 4096 < w.tuning.rmax then .clamped else .ok := by
  have hl : rs.length ≤ (namedStreams i n).length := by rw [length_namedStreams h h', hn]
  have hany : (((namedStreams i n).zip rs).any fun w => decide (4096 < w.2.tuning.rmax)) = true
      ↔ ∃ w ∈ rs, 4096 < w.tuning.rmax := by
    have hsnd := List.any_map (f := Prod.snd) (l := (namedStreams i n).zip rs)
      (p := fun w : StreamRecord => decide (4096 < w.tuning.rmax))
    rw [List.map_snd_zip hl] at hsnd
    exact (Bool.eq_iff_iff.mp hsnd.symm).trans (by simp)
  rw [State.streamWriteResult, if_neg hc]
  simp only [hany]

theorem State.storeStreams_namedStreams : s.storeStreams ((namedStreams i n).zip rs) =
    { s with streams := Vector.ofFn fun k : StreamId =>
        (if i ≤ k.val + 1 then rs[k.val + 1 - i]? else none).elim (s.stream k) fun w => { s.stream k with record := w } } := by
  simp only [← lookup_zip_namedStreams h h' hn]
  refine congrArg (fun v => { s with streams := v }) (congrArg Vector.ofFn (funext fun k => ?_))
  cases ((namedStreams i n).zip rs).lookup k <;> rfl

end

theorem State.writeStreams_unread {s : State} {r : Request}
    (h : readRecords readStreamRecord streamRecordSize r.count r.env.data = none) :
    s.writeStreams r = s.answer r .badValue [] := by simp [State.writeStreams, h]

section
variable {s : State} {r : Request} {rs : List StreamRecord}
  (hrs : readRecords readStreamRecord streamRecordSize r.count r.env.data = some rs)
include hrs

theorem State.writeStreams_conflict (hc : ((namedStreams r.index r.count).zip rs).any s.shapeConflict = true) :
    s.writeStreams r = s.answer r .state [] := by
  simp [State.writeStreams, hrs, State.streamWriteResult, hc, Result.executed]

theorem State.writeStreams_fits {res : Result}
    (hres : s.streamWriteResult ((namedStreams r.index r.count).zip rs) = res) (hx : res.executed = true) :
    s.writeStreams r = (s.storeStreams ((namedStreams r.index r.count).zip rs)).answer r res [] := by
  subst hres
  simp [State.writeStreams, hrs, hx]

end

/-- Settles O49: a record's ranges, a run of records, and then the two refusals and the storing. -/
theorem writeStreamStoresAllOrNothing : Obligations.WriteStreamStoresAllOrNothing := by
  refine ⟨readStreamRecord_isSome_iff,
    fun _ read size n b => ⟨readRecords_eq_none_iff read size n b, fun _ h => getElem?_of_readRecords h⟩,
    fun s m h hp hnames hd => ?_⟩
  intro r i n u
  have hexec : exec (.writeStream m) s = .next (u.writeStreams r) :=
    congrArg Host.Outcome.next
      (State.handle_streamRequest (k := .write) rfl rfl h hp rfl hnames (decide_eq_true hd))
  rw [hexec]
  refine ⟨fun hnone => ?_, fun rs hrs => ?_⟩
  · rw [State.writeStreams_unread (r := r) hnone]
  obtain ⟨-, -, hi, hupTo⟩ := hnames
  have h' : i + n ≤ 65 := hupTo
  have hn : rs.length = n := (getElem?_of_readRecords hrs).1
  have hconflict := State.any_shapeConflict_iff (s := u) hi h' hn
  simp only [u, State.stream_take] at hconflict
  refine ⟨fun hc => ?_, fun hc => ?_⟩
  · rw [State.writeStreams_conflict (r := r) hrs (hconflict.mpr hc)]
  · have hfits : ¬ ((namedStreams i n).zip rs).any u.shapeConflict = true := by
      rw [hconflict]
      rintro ⟨k, w, hk, hw, he, hne⟩
      exact hne (hc k w hk hw he)
    rw [State.writeStreams_fits (r := r) hrs (State.streamWriteResult_fits hi h' hn hfits) (by split <;> rfl)]
    refine congrArg (fun v => Host.Outcome.next (State.answer v r _ [])) ?_
    refine (State.storeStreams_namedStreams hi h' hn).trans
      (congrArg (fun v => { u with streams := Vector.ofFn v }) (funext fun k => ?_))
    simp only [u, State.stream_take]
    split
    · cases rs[k.val + 1 - i]? <;> rfl
    · rfl

end Sys2Proof.Machine
end

section
/-! Sample memory along every step, and the frames of a segment that has just been stored (R42 to R45, R49, R50). -/

namespace Sys2Proof.Machine

/-! ### The canonical form of sample memory -/

theorem State.MemorySound.congr {s t : State} (h : s.MemorySound) (hm : t.mem = s.mem) : t.MemorySound := by
  rw [State.MemorySound, hm]
  exact h

theorem State.MemorySound.classify {s : State} (h : s.MemorySound) (k : StreamId) (p : Port) (g : Segment) :
    (s.classify k p g).MemorySound := by
  rcases s.classify_mem k p g with hm | ⟨-, hm⟩
  · exact h.congr hm
  · rw [State.MemorySound, hm]
    exact Memory.wf_writeWords h _ _

/-- Of what a port hands over, a segment alone reaches sample memory. -/
theorem State.MemorySound.handOver {s : State} (h : s.MemorySound) (p : Port) (r : Reception) :
    (s.handOver p r).MemorySound := by
  cases r with
  | segment k g => exact h.classify k p g
  | request r => exact h.congr (s.handle_frame r).2.1
  | badFcs => exact h
  | foreign => exact h
  | malformed => exact h
  | unadmitted => exact h

/-- Power-on empties the list of written words, a segment is classified by its own event or by the reception of its frame,
and nothing else reaches sample memory. -/
theorem Effect.memorySound {s t : State} (he : Effect s t) (h : s.MemorySound) : t.MemorySound := by
  cases he with
  | powerOn => rfl
  | classify k p g => exact h.classify k p g
  | receive p f => exact (h.congr (by simp)).handOver p (s.judgeFrame p f)
  | _ => exact h.congr (by simp)

/-- Settles O4: the one write of sample memory is that of a stored segment, which keeps the form. -/
theorem stepKeepsSampleMemoryCanonical : Obligations.StepKeepsSampleMemoryCanonical := fun _ _ hs h =>
  step_keeps (P := State.MemorySound) (fun _ _ h => h) (fun _ _ he => he.memorySound) h hs

/-! ### Where a frame is held (R44, R49) -/

theorem Stream.locate_unanchored {st : Stream} (h : st.anchor = none) (x : Origin) : st.locate x = none := by
  simp only [Stream.locate, h]

/-- The frame of origin `x` is frame `o` of segment `n` on the timeline of the anchor: it is present exactly where the slot
position of that segment holds that segment's tag. -/
theorem Stream.locate_anchored {st : Stream} {a : Tag} {x : Origin} {n o : Int} (ha : st.anchor = some a)
    (hx : (x - a.origin).toInt = n * st.record.shape.segLen + o) (h0 : 0 ≤ o) (ho : o < st.record.shape.segLen) :
    st.locate x =
      if lookupKey st.tags (st.slotOf (a.seq + BitVec.ofInt 16 n))
          = some ⟨a.seq + BitVec.ofInt 16 n, a.origin + BitVec.ofInt 32 (n * st.record.shape.segLen)⟩ then
        some (st.slotOf (a.seq + BitVec.ofInt 16 n), o.toNat)
      else none := by
  have hpos : (0 : Int) < st.record.shape.segLen := by omega
  have hn : (n * st.record.shape.segLen + o).fdiv st.record.shape.segLen = n := by
    rw [Int.fdiv_eq_ediv_of_nonneg _ hpos.le, add_comm, Int.add_mul_ediv_right _ _ hpos.ne',
      Int.ediv_eq_zero_of_lt h0 ho, zero_add]
  simp only [Stream.locate, ha, timeDiff, hx, hn, add_sub_cancel_left]
  rfl

theorem State.frameAt_eq_none_iff (s : State) (k : StreamId) (x : Origin) :
    s.frameAt k x = none ↔ (s.stream k).locate x = none := by
  unfold State.frameAt
  dsimp only
  cases (s.stream k).locate x with
  | none => simp
  | some io => simp

/-! ### The frames of a segment just stored (R43, R45, R50) -/

/-- The segment is the latest that its stream has stored: it is the anchor, its slot position holds its tag, and the words of
that slot position are its samples (R44, R45). -/
structure State.Holds (t : State) (k : StreamId) (g : Segment) : Prop where
  fits : (t.stream k).Fits g
  anchor : (t.stream k).anchor = some ⟨g.seq, g.origin⟩
  tag : lookupKey (t.stream k).tags ((t.stream k).slotOf g.seq) = some ⟨g.seq, g.origin⟩
  words : ∀ n (h : n < g.samples.length),
    t.readWord (wordAddress (t.stream k).record.shape ((t.stream k).slotOf g.seq) 0 + n) = g.samples[n]

/-- Every frame of a segment that is held reads back the samples received. -/
theorem State.Holds.frameAt {t : State} {k : StreamId} {g : Segment} (h : t.Holds k g)
    (hl : g.samples.length = g.channels * g.frames) (hb : g.frames ≤ 48) {f : Nat} (hf : f < g.frames) :
    t.frameAt k (g.origin + BitVec.ofNat 32 f)
      = some (Vector.ofFn fun c : Fin 16 =>
          if c.val < g.channels then (g.samples[f * g.channels + c.val]?).getD 0 else 0) := by
  obtain ⟨⟨hc, hn⟩, ha, ht, hw⟩ := h
  have hoff : (g.origin + BitVec.ofNat 32 f - g.origin).toInt = 0 * (t.stream k).record.shape.segLen + (f : Int) := by
    rw [add_sub_cancel_left, zero_mul, zero_add, BitVec.toInt_ofNat']
    exact Int.bmod_eq_of_le (by omega) (by omega)
  have hloc : (t.stream k).locate (g.origin + BitVec.ofNat 32 f) = some ((t.stream k).slotOf g.seq, f) := by
    rw [Stream.locate_anchored ha hoff (by omega) (by omega)]
    simpa using ht
  have hword (c : Fin 16) (hcc : c.val < g.channels) :
      t.readWord (wordAddress (t.stream k).record.shape ((t.stream k).slotOf g.seq) f + c.val)
        = (g.samples[f * g.channels + c.val]?).getD 0 := by
    have hlt : f * g.channels + c.val < g.samples.length :=
      calc f * g.channels + c.val < f * g.channels + g.channels := by omega
        _ = (f + 1) * g.channels := by ring
        _ ≤ g.frames * g.channels := Nat.mul_le_mul_right _ hf
        _ = g.samples.length := by rw [hl, mul_comm]
    rw [List.getElem?_eq_getElem hlt, Option.getD_some, ← hw _ hlt, hc]
    congr 1
    unfold wordAddress
    ring
  unfold State.frameAt
  simp only [hloc, ← hc]
  refine congrArg (fun v => some (Vector.ofFn v)) (funext fun c => ?_)
  split
  · exact hword c (by assumption)
  · rfl

/-- In a sound table the slot positions of an enabled stream end within sample memory (R17, R42, R43). -/
theorem State.TableSound.slotEnd_le {s : State} (h : s.TableSound) {k : StreamId} (he : (s.stream k).enabled = true)
    (q : Seq) : wordAddress (s.stream k).record.shape ((s.stream k).slotOf q) 0
      + (s.stream k).record.shape.channels * (s.stream k).record.shape.segLen ≤ memoryWords := by
  obtain ⟨hslots, h4⟩ := h.fig_slots he
  have hi : (s.stream k).slotOf q < (s.stream k).record.shape.slots := by
    rw [Stream.slotOf, hslots]
    exact Nat.mod_lt _ (by omega)
  obtain ⟨-, -, -, -, hpages, -⟩ := (Shape.inRange_iff _).mp (h.ranges k)
  have hend := Shape.slotEnd_le hi
  unfold memoryWords
  omega

/-- A segment handed over is held after a change of its stream that makes it the anchor, stores its tag and keeps the record
and the figures, together with the write of its samples. -/
theorem State.HandsOver.holds_stored {s t : State} {p : Port} {g : Segment} {k : StreamId} (h : s.HandsOver p g k)
    (hs : s.TableSound) (hfits : (s.stream k).Fits g) {count : PathCounters → PathCounters} {f : Stream → Stream}
    (ht : { (s.arrived k p g count).modStream k f with
      mem := writeWords s.mem (wordAddress (s.stream k).record.shape ((s.stream k).slotOf g.seq) 0) g.samples } = t)
    (hf : ∀ st : Stream, (f st).record = st.record ∧ (f st).figures = st.figures
      ∧ (f st).anchor = some ⟨g.seq, g.origin⟩
      ∧ (f st).tags = insertKey st.tags ((s.stream k).slotOf g.seq) ⟨g.seq, g.origin⟩) : t.Holds k g := by
  have hmem : t.mem
      = writeWords s.mem (wordAddress (s.stream k).record.shape ((s.stream k).slotOf g.seq) 0) g.samples := by rw [← ht]
  have hstream : t.stream k = f ((s.arrived k p g count).stream k) := by
    rw [← ht]
    exact State.stream_modStream_same _ k f
  obtain ⟨a, b, x, harrived⟩ := s.stream_arrived k p g count
  obtain ⟨hrecord, hfigures, hanchor, htags⟩ := hf ((s.arrived k p g count).stream k)
  rw [← hstream, harrived] at hrecord hfigures htags
  rw [← hstream] at hanchor
  have hslot : (t.stream k).slotOf g.seq = (s.stream k).slotOf g.seq := by
    simp only [Stream.slotOf, Stream.fig, hfigures]
  have hend := hs.slotEnd_le h.enabled g.seq
  rw [← hfits.1, ← hfits.2, ← ((wellFormed_iff g).mp h.wellFormed).2] at hend
  refine ⟨?_, hanchor, ?_, fun n hn => ?_⟩
  · rwa [Stream.Fits, hrecord]
  · rw [htags, hslot, lookupKey_insertKey_same]
  · refine State.readWord_of_lookup _ ?_
    rw [hmem, hrecord, hslot]
    exact lookupKey_writeWords_inside _ _ _ hn (by omega)

/-- A segment of the timeline that is judged ACCEPTED is wanted, and its tag is not held (R33 to R35). -/
theorem Stream.of_judge_accepted {st : Stream} {q : Seq} {t : Origin} (h : st.judge q t = .accepted)
    (hline : st.onTimeline q t = true) : 0 < st.reach t ∧ st.reach t ≤ (st.fig.capacity : Int)
      ∧ lookupKey st.tags (st.slotOf q) ≠ some ⟨q, t⟩ := by
  have hpos : 0 < st.reach t := by
    by_contra hn
    rw [Stream.judge_late hline (Int.not_lt.mp hn)] at h
    cases h
  have hcap : st.reach t ≤ (st.fig.capacity : Int) := by
    by_contra hn
    rw [Stream.judge_early hline hpos (Int.not_le.mp hn)] at h
    cases h
  refine ⟨hpos, hcap, fun hheld => ?_⟩
  rw [Stream.judge_wanted hline hpos hcap, if_pos hheld] at h
  cases h

/-- A segment that is handed over and starts a lock, or is accepted on the timeline, is held in the next state. -/
theorem State.HandsOver.holds {s t : State} {p : Port} {g : Segment} {k : StreamId} (h : s.HandsOver p g k)
    (hs : s.TableSound) (hv : (s.stream k).verdict g = .first ∨ (s.stream k).verdict g = .accepted)
    (hx : exec (.audioSegment p g) s = .next t) : t.Holds k g := by
  rcases hv with hv | hv
  · obtain ⟨hacquire, hfits⟩ := Stream.of_verdict_first hv
    rw [firstSegmentStartsTheLock s p g k h hfits hacquire] at hx
    exact h.holds_stored hs hfits (Host.Outcome.next.inj hx) fun _ => ⟨rfl, rfl, rfl, rfl⟩
  · obtain ⟨hlocked, hfits, hline⟩ := Stream.of_verdict_accepted hv
    rw [Stream.verdict_locked hfits hlocked] at hv
    obtain ⟨hpos, hcap, hnew⟩ := Stream.of_judge_accepted hv hline
    rw [laterSegmentIsAccepted s p g k h hfits hlocked ((Stream.onTimeline_iff _ _ _).mp hline) hpos hcap hnew] at hx
    exact h.holds_stored hs hfits (Host.Outcome.next.inj hx) fun _ => ⟨rfl, rfl, rfl, rfl⟩

/-- Settles O26: the segment is held after its acceptance, so its frames read back; and the presence of a frame is the
presence of its segment's tag. -/
theorem acceptedSegmentIsPresent : Obligations.AcceptedSegmentIsPresent := by
  refine ⟨fun s t p g k hs hg hv hx f hf => ?_, fun s k x => ?_⟩
  · obtain ⟨hfields, hl⟩ := (wellFormed_iff g).mp hg.wellFormed
    obtain ⟨-, -, -, -, hframes, -⟩ := hfields
    exact (hg.holds hs hv hx).frameAt hl (by omega) hf
  · intro st len
    refine ⟨fun ha => (s.frameAt_eq_none_iff k x).mpr (Stream.locate_unanchored ha x), fun a n o ha hx h0 ho => ?_⟩
    intro q held
    have hloc : st.locate x = if held = some ⟨q, a.origin + BitVec.ofInt 32 (n * len)⟩ then some (st.slotOf q, o.toNat)
        else none := Stream.locate_anchored ha hx h0 ho
    have hmissing : s.frameAt k x = none ↔ held ≠ some ⟨q, a.origin + BitVec.ofInt 32 (n * len)⟩ := by
      rw [s.frameAt_eq_none_iff k x, hloc]
      simp
    refine ⟨fun hnone => ?_, fun b hb hne => ?_, fun hsome => ?_⟩
    · rw [hmissing, hnone]
      simp
    · rw [hmissing, hb]
      simpa using hne
    · rw [ne_eq, hmissing, not_not]
      exact hsome

end Sys2Proof.Machine
end

section
/-! The house timebase along every step: the runs, REF_LOST and the first house frame (R54 to R61, R65, R66). -/

namespace Sys2Proof.Machine

/-! ### What leaves REF_LOST as it was (R57, R59, R161) -/

@[simp] theorem State.raise_refLost (s : State) (k : StreamId) (a : StreamAlarm) :
    (s.raise k a).ev.refLost = s.ev.refLost := by
  unfold State.raise; split <;> simp

@[simp] theorem State.relock_refLost (s : State) (k : StreamId) : (s.relock k).ev.refLost = s.ev.refLost := by
  simp [State.relock]

@[simp] theorem State.advancePath_refLost (s : State) (k : StreamId) (p : Port) :
    (s.advancePath k p).ev.refLost = s.ev.refLost := by
  unfold State.advancePath; repeat' split
  all_goals simp

@[simp] theorem State.testPeak_refLost (s : State) (k : StreamId) (st : Stream) :
    (s.testPeak k st).ev.refLost = s.ev.refLost := by
  unfold State.testPeak; repeat' split
  all_goals simp

@[simp] theorem State.closePeak_refLost (s : State) (k : StreamId) : (s.closePeak k).ev.refLost = s.ev.refLost := by
  unfold State.closePeak; split <;> simp

@[simp] theorem State.monitorWork_refLost (s : State) (k : StreamId) : (s.monitorWork k).ev.refLost = s.ev.refLost := by
  simp [State.monitorWork]

@[simp] theorem State.setServoLimit_refLost (s : State) (k : StreamId) (holds : Bool) :
    (s.setServoLimit k holds).ev.refLost = s.ev.refLost := by
  unfold State.setServoLimit; repeat' split
  all_goals simp

@[simp] theorem State.servoWork_refLost (s : State) (k : StreamId) : (s.servoWork k).ev.refLost = s.ev.refLost := by
  unfold State.servoWork; split <;> simp

@[simp] theorem State.boundaryStage_refLost (s : State) (k : StreamId) :
    (s.boundaryStage k).ev.refLost = s.ev.refLost := by
  unfold State.boundaryStage; repeat' split
  all_goals simp

@[simp] theorem State.frameStage_refLost (s : State) (k : StreamId) : (s.frameStage k).ev.refLost = s.ev.refLost := by
  unfold State.frameStage; dsimp only; split <;> simp [State.handToDetector]

@[simp] theorem State.playoutWork_refLost (s : State) (k : StreamId) : (s.playoutWork k).ev.refLost = s.ev.refLost := by
  unfold State.playoutWork; split <;> simp

@[simp] theorem State.reject_refLost (s : State) (k : StreamId) : (s.reject k).ev.refLost = s.ev.refLost := by
  unfold State.reject; split <;> simp

@[simp] theorem State.conclude_refLost (s : State) (k : StreamId) (g : Segment) (v : Verdict) :
    (s.conclude k g v).ev.refLost = s.ev.refLost := by
  unfold State.conclude; repeat' split
  all_goals simp

@[simp] theorem State.classify_refLost (s : State) (k : StreamId) (p : Port) (g : Segment) :
    (s.classify k p g).ev.refLost = s.ev.refLost := by simp [State.classify]

@[simp] theorem State.matrixBoundary_refLost (s : State) : s.matrixBoundary.ev.refLost = s.ev.refLost := by
  unfold State.matrixBoundary; dsimp only; split <;> simp [State.performSwap]

@[simp] theorem State.matrixWork_refLost (s : State) : s.matrixWork.ev.refLost = s.ev.refLost := by
  unfold State.matrixWork; split <;> simp

@[simp] theorem State.relockAll_refLost (s : State) (ks : List StreamId) :
    (s.relockAll ks).ev.refLost = s.ev.refLost := by
  unfold State.relockAll
  induction ks generalizing s with
  | nil => rfl
  | cons k ks ih =>
    rw [List.foldl_cons, ih]
    split <;> simp

@[simp] theorem State.houseFrame_refLost (s : State) (mark : Bool) : (s.houseFrame mark).ev.refLost = s.ev.refLost := by
  unfold State.houseFrame; dsimp only; repeat' split
  all_goals simp

/-! ### The timebase after a house frame -/

/-- The timebase after a house frame with a mark on it or none (R54, R55, R60, R61). -/
def Timebase.produced (t : Timebase) (mark rephase : Bool) : Timebase :=
  { t with h := t.nextCount, phase := rephased mark rephase t.nextPhase,
           lastMark := if mark then t.nextPhase else t.lastMark, firstDue := false }

@[simp] theorem State.houseFrame_tb (s : State) (mark : Bool) :
    (s.houseFrame mark).tb = s.tb.produced mark s.dev.rephase := by
  unfold State.houseFrame
  dsimp only
  split
  · simp only [State.latch_frame]
    split <;> rfl
  · split <;> rfl

/-! ### A sound timebase, by its reference state -/

theorem State.timebaseSound_of_freeRun {s : State} (hf : s.tb.ref = .freeRun) (hm : s.tb.missedRun = 0)
    (hg : s.tb.goodRun < 480) (first : s.tb.firstDue = true → s.tb.h = 0 ∧ s.tb.phase = 0) : s.TimebaseSound where
  missed := by omega
  good := hg
  freeRun _ := hm
  lockedRef hl := by simp [hf] at hl
  refLost _ := hf
  first := first

theorem State.timebaseSound_of_lockedRef {s : State} (hl : s.tb.ref = .lockedRef) (hm : s.tb.missedRun < 4)
    (hg : s.tb.goodRun = 0) (hr : s.ev.refLost = false)
    (first : s.tb.firstDue = true → s.tb.h = 0 ∧ s.tb.phase = 0) : s.TimebaseSound where
  missed := hm
  good := by omega
  freeRun hf := by simp [hl] at hf
  lockedRef _ := hg
  refLost ha := by simp [hr] at ha
  first := first

theorem State.TimebaseSound.refLost_inactive {s : State} (h : s.TimebaseSound) (hl : s.tb.ref = .lockedRef) :
    s.ev.refLost = false := by
  cases hr : s.ev.refLost
  · rfl
  · exact absurd (h.refLost hr) (by simp [hl])

/-- The timebase and REF_LOST alone decide whether the timebase is sound. -/
theorem State.TimebaseSound.congr {s t : State} (h : s.TimebaseSound) (ht : t.tb = s.tb)
    (hr : t.ev.refLost = s.ev.refLost) : t.TimebaseSound where
  missed := ht ▸ h.missed
  good := ht ▸ h.good
  freeRun := ht ▸ h.freeRun
  lockedRef := ht ▸ h.lockedRef
  refLost := by
    rw [ht, hr]
    exact h.refLost
  first := ht ▸ h.first

/-! ### Each event keeps the timebase sound -/

/-- A house frame moves neither run nor the reference state, and after it the first one is no longer due. -/
theorem State.TimebaseSound.houseFrame {s : State} (h : s.TimebaseSound) (mark : Bool) :
    (s.houseFrame mark).TimebaseSound where
  missed := by simpa [Timebase.produced] using h.missed
  good := by simpa [Timebase.produced] using h.good
  freeRun := by simpa [Timebase.produced] using h.freeRun
  lockedRef := by simpa [Timebase.produced] using h.lockedRef
  refLost := by simpa [Timebase.produced] using h.refLost
  first := by simp [Timebase.produced]

theorem State.TimebaseSound.raiseRefLost {s : State} (h : s.TimebaseSound) (hf : s.tb.ref = .freeRun) :
    s.raiseRefLost.TimebaseSound :=
  State.timebaseSound_of_freeRun (by simpa using hf) (by simpa using h.freeRun hf) (by simpa using h.good)
    (by simpa using h.first)

/-- The entry into LOCKED_REF: both runs are 0 and REF_LOST is inactive before the house frame at the edge (R59). -/
theorem State.TimebaseSound.lockReference {s : State} (h : s.TimebaseSound) (mark : Bool) :
    (s.lockReference mark).TimebaseSound := by
  have locked : (State.clearRefLost { s with
      tb := { s.tb with ref := .lockedRef, goodRun := 0, missedRun := 0, spanOpen := false } }).TimebaseSound :=
    State.timebaseSound_of_lockedRef rfl (Nat.succ_pos _) rfl rfl h.first
  exact (locked.houseFrame mark).congr (by simp [State.lockReference]) (by simp [State.lockReference])

/-- An edge: an edge frame ends the missed-edge run, and a good edge below the 480th adds one to the good-edge run. -/
theorem State.TimebaseSound.edge {s : State} (h : s.TimebaseSound) (e : Edge) : (s.edge e).TimebaseSound := by
  unfold State.edge
  split
  · exact h
  · split
    case h_1 hl =>
      have ended : State.TimebaseSound { s with tb := { s.tb with missedRun := 0 } } :=
        State.timebaseSound_of_lockedRef hl (Nat.succ_pos _) (h.lockedRef hl) (h.refLost_inactive hl) h.first
      split
      · exact ended.houseFrame e.mark
      · exact h
    case h_2 hf =>
      have run (n : Nat) (b : Bool) (hn : n < 480) :
          State.TimebaseSound { s with tb := { s.tb with goodRun := n, spanOpen := b } } :=
        State.timebaseSound_of_freeRun hf (h.freeRun hf) hn h.first
      split
      · split
        · split
          · exact h.lockReference e.mark
          · exact run _ _ (by omega)
        · exact run _ _ (by decide)
      · exact run _ _ h.good

/-- A missed-edge frame: the run advances below 4, and at 4 the timebase enters FREE_RUN before it raises REF_LOST (R57). -/
theorem State.TimebaseSound.missedEdge {s : State} (h : s.TimebaseSound) (hl : s.tb.ref = .lockedRef) :
    s.missedEdge.TimebaseSound := by
  unfold State.missedEdge
  split
  · refine State.TimebaseSound.raiseRefLost ?_ rfl
    exact State.timebaseSound_of_freeRun rfl rfl (Nat.succ_pos _) (h.houseFrame false).first
  · exact State.timebaseSound_of_lockedRef (by simpa [Timebase.produced] using hl) (by dsimp only; omega)
      (by simpa [Timebase.produced] using h.lockedRef hl) (by simpa using h.refLost_inactive hl) (h.houseFrame false).first

/-- Every reset leaves FREE_RUN with both runs 0 (R66). -/
theorem State.TimebaseSound.requalify {s t : State} (h : s.TimebaseSound) (ht : t.tb = s.tb.requalify) :
    t.TimebaseSound :=
  State.timebaseSound_of_freeRun (by rw [ht]; rfl) (by rw [ht]; rfl) (by rw [ht]; exact Nat.succ_pos _)
    (ht ▸ h.first)

theorem State.TimebaseSound.execute {s : State} (h : s.TimebaseSound) (r : Request) (k : RequestKind) :
    (s.execute r k).TimebaseSound := by
  cases k
  case reset =>
    have answered : (s.answer r .ok []).TimebaseSound := h.congr (by simp) (by simp)
    unfold State.execute State.doReset
    dsimp only
    split
    · exact answered.requalify rfl
    · exact answered.requalify rfl
  case relock => exact h.congr (by simp [State.execute]) (by simp [State.execute, State.doRelock])
  case readEvents => exact h.congr (by simp [State.execute]) (by simp [State.execute, State.doReadEvents])
  all_goals
    unfold State.execute
    dsimp only
    repeat' split
    all_goals exact h.congr (by simp) (by simp)

theorem State.TimebaseSound.handle {s : State} (h : s.TimebaseSound) (r : Request) : (s.handle r).TimebaseSound := by
  unfold State.handle State.refuseBusy State.decideRequest
  repeat' split
  · exact h
  · exact h.congr (by simp) (by simp)
  · exact h.congr (by simp) (by simp)
  · exact State.TimebaseSound.execute (h.congr (by simp) (by simp)) r _
  · exact h

theorem State.TimebaseSound.handOver {s : State} (h : s.TimebaseSound) (p : Port) (r : Reception) :
    (s.handOver p r).TimebaseSound := by
  cases r with
  | segment k g => exact h.congr (by simp [State.handOver]) (by simp [State.handOver])
  | request r => exact h.handle r
  | badFcs => exact h
  | foreign => exact h
  | malformed => exact h
  | unadmitted => exact h

/-- The timebase's own events, the resets and what brings a request keep the timebase sound; no other event reaches it. -/
theorem Effect.timebaseSound {s t : State} (he : Effect s t) (h : s.TimebaseSound) : t.TimebaseSound := by
  cases he with
  | powerOn => exact State.timebaseSound_of_freeRun rfl rfl (Nat.succ_pos _) fun _ => ⟨rfl, rfl⟩
  | lineReset => exact h.requalify rfl
  | receive p f => exact State.TimebaseSound.handOver (h.congr (by simp) (by simp)) p (s.judgeFrame p f)
  | edge e => exact h.edge e
  | missedEdge hm =>
    simp only [State.missedEdgeArises, Bool.and_eq_true, decide_eq_true_eq] at hm
    obtain ⟨-, hl⟩ := hm
    exact h.missedEdge hl
  | houseFrame => exact h.houseFrame false
  | lapse hf => exact State.timebaseSound_of_freeRun hf (h.freeRun hf) (Nat.succ_pos _) h.first
  | request r => exact h.handle r
  | _ => exact h.congr (by simp) (by simp)

/-- Settles O6: the runs are counted below their limits, and REF_LOST is raised and cleared where the reference state
changes. -/
theorem stepKeepsTimebaseRunsBounded : Obligations.StepKeepsTimebaseRunsBounded := fun _ _ hs h =>
  step_keeps (P := State.TimebaseSound) (fun _ _ h => h.congr rfl rfl) (fun _ _ he => he.timebaseSound) h hs

end Sys2Proof.Machine
end

section
/-! The events of the house timebase: house frames, reference edges and missed edges (R54 to R61, R65, R66). -/

namespace Sys2Proof.Machine

/-! ### The timebase after a house frame (R54, R55, R60, R61, R65) -/

theorem Timebase.produced_eq (t : Timebase) (mark rephase : Bool) : t.produced mark rephase = { t with
    h := t.nextCount,
    phase := if (mark = true ∧ t.nextPhase ≠ 0) ∧ rephase = true then 0 else t.nextPhase,
    lastMark := if mark then t.nextPhase else t.lastMark, firstDue := false } := by
  simp only [Timebase.produced, rephased, Bool.and_eq_true, decide_eq_true_eq]

theorem Timebase.produced_unmarked (t : Timebase) (rephase : Bool) : t.produced false rephase =
    { t with h := t.nextCount, phase := t.nextPhase, firstDue := false } := rfl

/-! ### A house frame at the blocks (R54, R66, R144) -/

/-- The hand-over by the streams' own `newFrame` is the hand-over field by field. -/
theorem State.handedFrame_eq (s : State) (tb : Timebase) : s.handedFrame tb =
    { s.mapStreams (Stream.newFrame (decide (tb.phase = 0))) with
      tb := tb, copyDue := decide (tb.phase = 0), bus := s.bus.newFrame, matrix := { s.matrix with due := true } } := by
  have hframe : Stream.newFrame (decide (tb.phase = 0)) = fun st => { st with
      frameDue := true, stepDue := decide (tb.phase = 0), monitorDue := decide (tb.phase = 0),
      peakDue := decide (tb.phase = 0), closing := if tb.phase = 0 then st.inForce else st.closing,
      accepted := false } := by
    funext st
    simp only [Stream.newFrame, decide_eq_true_eq]
  rw [hframe]
  rfl

/-- With the reset line released every block acts on a house frame, and a mark that finds another phase than 0 is latched. -/
theorem State.houseFrame_released {s : State} (hr : s.pins.resetLine = false) (mark : Bool) : s.houseFrame mark =
    if mark = true ∧ s.tb.nextPhase ≠ 0 then (s.handedFrame (s.tb.produced mark s.dev.rephase)).latch .markSlip 0
    else s.handedFrame (s.tb.produced mark s.dev.rephase) := by
  simp only [State.houseFrame, hr, Bool.false_eq_true, if_false, Bool.and_eq_true, decide_eq_true_eq,
    State.handedFrame_eq]
  rfl

theorem State.houseFrame_unmarked {s : State} (hr : s.pins.resetLine = false) : s.houseFrame false =
    s.handedFrame { s.tb with h := s.tb.nextCount, phase := s.tb.nextPhase, firstDue := false } := by
  rw [State.houseFrame_released hr, if_neg (fun h => Bool.false_ne_true h.1), Timebase.produced_unmarked]

/-- With the reset line asserted the gallery bus port alone acts on a house frame. -/
theorem State.houseFrame_unmarked_asserted {s : State} (hr : s.pins.resetLine = true) : s.houseFrame false = { s with
    tb := { s.tb with h := s.tb.nextCount, phase := s.tb.nextPhase, firstDue := false },
    bus := { s.bus with formed0 := none, formed1 := s.bus.formed0, formed2 := s.bus.formed1, due := true } } := by
  simp [State.houseFrame, hr, rephased, GalleryBus.newFrame]

/-! ### Reference edges (R56, R58, R59, R66) -/

theorem Edge.inWindow_iff (e : Edge) : Edge.inWindow e = true ↔ -32768 ≤ e.offset ∧ e.offset ≤ 32768 := by
  rw [Edge.inWindow, decide_eq_true_eq]
  omega

theorem Edge.goodSpan_iff (e : Edge) : Edge.goodSpan e = true ↔ 61440 ≤ e.span ∧ e.span ≤ 69632 := by
  simp [Edge.goodSpan]

section
variable {s : State} (e : Edge)

theorem State.edge_asserted (hr : s.pins.resetLine = true) : s.edge e = s := by simp [State.edge, hr]

theorem State.edge_lockedRef (hr : s.pins.resetLine = false) (hl : s.tb.ref = .lockedRef) : s.edge e =
    if Edge.inWindow e then State.houseFrame { s with tb := { s.tb with missedRun := 0 } } e.mark else s := by
  simp [State.edge, hr, hl]

theorem State.edge_begins_span (hr : s.pins.resetLine = false) (hf : s.tb.ref = .freeRun) (ho : s.tb.spanOpen = false) :
    s.edge e = { s with tb := { s.tb with spanOpen := true } } := by
  simp [State.edge, hr, hf, ho]

theorem State.edge_ends_span (hr : s.pins.resetLine = false) (hf : s.tb.ref = .freeRun) (ho : s.tb.spanOpen = true) :
    s.edge e = if Edge.goodSpan e then
        if 480 ≤ s.tb.goodRun + 1 then s.lockReference e.mark
        else { s with tb := { s.tb with goodRun := s.tb.goodRun + 1 } }
      else { s with tb := { s.tb with goodRun := 0 } } := by
  simp [State.edge, hr, hf, ho]

end

/-- Settles O28: by the reset line, and by what an edge finds of a span. -/
theorem freeRunFramesAndEdges : Obligations.FreeRunFramesAndEdges := by
  intro s e p n tb
  refine ⟨fun hf hr => ⟨?_, fun ho => ?_, fun ho hlow hhigh hrun => ?_, fun ho hbad => ?_, ?_⟩,
    fun hf hr => ⟨?_, ?_, ?_⟩, fun hl => ⟨?_, ?_⟩⟩
  · rw [exec, execOscillatorFrame, if_pos hf, s.houseFrame_unmarked hr]
    rfl
  · rw [exec, execReferenceEdge, s.edge_begins_span e hr hf ho]
  · rw [exec, execReferenceEdge, s.edge_ends_span e hr hf ho, if_pos ((Edge.goodSpan_iff e).mpr ⟨hlow, hhigh⟩),
      if_neg (by omega)]
  · have hn : ¬ Edge.goodSpan e = true := by
      rw [Edge.goodSpan_iff]
      omega
    rw [exec, execReferenceEdge, s.edge_ends_span e hr hf ho, if_neg hn]
  · simp [exec, execGoodEdgeRunLapse, hr, hf]
  · rw [exec, execOscillatorFrame, if_pos hf, s.houseFrame_unmarked_asserted hr]
    rfl
  · rw [exec, execReferenceEdge, s.edge_asserted e hr]
  · simp [exec, execGoodEdgeRunLapse, hr]
  · simp [exec, execOscillatorFrame, hl]
  · simp [exec, execGoodEdgeRunLapse, hl]

/-- Settles O29: by the window; an edge in it is a house frame with the missed-edge run at 0. -/
theorem edgeFrameTakesItsMark : Obligations.EdgeFrameTakesItsMark := by
  intro s e hl hr p n slips tb
  refine ⟨fun hlow hhigh => ?_, fun hout => ?_⟩
  · rw [exec, execReferenceEdge, s.edge_lockedRef e hr hl, if_pos ((Edge.inWindow_iff e).mpr ⟨hlow, hhigh⟩),
      State.houseFrame_released (by exact hr), Timebase.produced_eq]
    rfl
  · have hn : ¬ Edge.inWindow e = true := by
      rw [Edge.inWindow_iff]
      omega
    rw [exec, execReferenceEdge, s.edge_lockedRef e hr hl, if_neg hn]

/-! ### Missed edges and the entries into FREE_RUN and LOCKED_REF (R56, R57, R59) -/

/-- Settles O30: the fourth missed edge in a row is a house frame whose timebase takes the reference state too. -/
theorem fourthMissedEdgeEntersFreeRun : Obligations.FourthMissedEdgeEntersFreeRun := by
  intro s hl hr p n u
  have ha : s.missedEdgeArises = true := by simp [State.missedEdgeArises, hr, hl]
  have hframe := s.houseFrame_unmarked hr
  have hmissed : exec .missedEdgeFrame s = .next s.missedEdge := by rw [exec, execMissedEdgeFrame, if_pos ha]
  refine ⟨fun hrun => ?_, fun hrun => ?_⟩
  · rw [hmissed, State.missedEdge, if_neg (by omega), hframe]
    rfl
  · have hfree : exec .enterFreeRun s = .next s.missedEdge := by simp [exec, execEnterFreeRun, ha, hrun]
    refine ⟨?_, hmissed.trans hfree.symm⟩
    rw [hfree, State.missedEdge, if_pos hrun, hframe]
    rfl

/-- Settles O31: the edge's house frame is produced in LOCKED_REF with REF_LOST cleared. -/
theorem goodEdge480EntersLockedRef : Obligations.GoodEdge480EntersLockedRef := by
  intro s e hf hr ho hlow hhigh hrun p n slips tb u
  have hgood : Edge.goodSpan e = true := (Edge.goodSpan_iff e).mpr ⟨hlow, hhigh⟩
  have hedge : s.edge e = s.lockReference e.mark := by
    rw [s.edge_ends_span e hr hf ho, if_pos hgood, if_pos hrun]
  have henter : exec (.enterLockedRef e) s = .next (s.lockReference e.mark) := by
    rw [exec, execEnterLockedRef, if_pos (by simp [State.edgeLocks, hr, hf, ho, hgood, hrun]), hedge]
  refine ⟨?_, ?_⟩
  · rw [henter, State.lockReference, State.houseFrame_released (by exact hr), Timebase.produced_eq]
    rfl
  · rw [henter, exec, execReferenceEdge, hedge]

end Sys2Proof.Machine
end

section
/-! The bus frame of the gallery bus port (R66, R144). -/

namespace Sys2Proof.Machine

/-- Slot j is position j mod 32 of lane floor(j / 32). -/
theorem inLanes_slot (v : SlotValues) (j : SlotId) {lane : Fin 8} {position : Fin 32} (hl : lane.val = j.val / 32)
    (hp : position.val = j.val % 32) : (inLanes v)[lane][position] = v[j] := by
  have hj : 32 * lane.val + position.val = j.val := by omega
  simp [inLanes, hj]

/-- A slot for which no value was formed is sent as 0. -/
theorem BusFrame.zero_eq : BusFrame.zero = inLanes (Vector.replicate 256 0) := by
  ext
  simp [BusFrame.zero, inLanes]

theorem GalleryBus.toSend_eq (b : GalleryBus) : b.toSend = inLanes (b.formed2.getD (Vector.replicate 256 0)) := by
  unfold GalleryBus.toSend
  split
  case h_1 v hv => rw [hv, Option.getD_some]
  case h_2 hv => rw [hv, Option.getD_none, BusFrame.zero_eq]

theorem State.exec_galleryBusFrame {s : State} (h : s.bus.due = true) : exec .galleryBusFrame s = .next { s with
    bus := { s.bus with sent := inLanes (s.bus.formed2.getD (Vector.replicate 256 0)), due := false } } := by
  rw [exec, execGalleryBusFrame, if_pos h, GalleryBus.toSend_eq]

/-- Settles O43: the values formed two house frames before are what the port sends, and each house frame makes the values
formed one frame older. -/
theorem busFrameCarriesValuesOfTwoFramesBefore : Obligations.BusFrameCarriesValuesOfTwoFramesBefore := by
  intro s carries
  refine ⟨fun hd => ⟨_, s.exec_galleryBusFrame hd, rfl, fun v hv => ?_, fun hv => ?_⟩, fun hd => ?_,
    fun v tb1 tb2 hv => ⟨_, State.exec_galleryBusFrame rfl, ?_⟩⟩
  · intro j lane position hl hp
    simpa only [hv, Option.getD_some] using inLanes_slot v j hl hp
  · intro j lane position hl hp
    simpa only [hv, Option.getD_none] using inLanes_slot _ j hl hp
  · rw [exec, execGalleryBusFrame, if_neg (by simp [hd])]
  · intro j lane position hl hp
    simpa only [State.handedFrame, hv, Option.getD_some] using inLanes_slot v j hl hp

end Sys2Proof.Machine
end

section
/-! The servo step outside PLAYING (R66, R90, R99 to R101). -/

namespace Sys2Proof.Machine

/-- A change that leaves what the stream holds changes nothing. -/
theorem State.modStream_of_fixed {s : State} {k : StreamId} {f : Stream → Stream} (h : f (s.stream k) = s.stream k) :
    s.modStream k f = s := by
  simp only [State.stream, Fin.getElem_fin] at h
  simp [State.modStream, h]

/-- A limit that does not hold leaves SERVO_LIMIT inactive, whatever it was before (R94, R100, R101). -/
theorem State.setServoLimit_false (s : State) (k : StreamId) : s.setServoLimit k false = s.modStream k fun st =>
    { st with alarms := { st.alarms with servoLimit := false } } := by
  cases h : (s.stream k).alarms.servoLimit
  · have hfixed : s.setServoLimit k false = s := by simp [State.setServoLimit, h]
    rw [hfixed, State.modStream_of_fixed (by rw [← h])]
  · have hclear : s.setServoLimit k false = s.clearAlarm k .servoLimit := by simp [State.setServoLimit, h]
    rw [hclear]
    rfl

/-- Settles O34: by the state of the stream. -/
theorem servoStepOutsidePlaying : Obligations.ServoStepOutsidePlaying := by
  intro s k
  refine ⟨fun hr hd he => ?_, fun h => ?_⟩
  · have hx : exec (.servoStep k) s = .next (s.servoWork k) := by simp [exec, execServoStep, hr, hd, he]
    refine ⟨fun hs => ?_, fun hs => ?_⟩
    · simp only [hx, State.servoWork, hs]
    · have hw : s.servoWork k = (s.modStream k fun st => { st with stepDue := false }).setServoLimit k false := by
        rcases hs with hs | hs <;> simp only [State.servoWork, hs]
      rw [hx, hw, State.setServoLimit_false, State.modStream_modStream]
  · rcases h with h | h | h <;> simp [exec, execServoStep, h]

end Sys2Proof.Machine
end

section
/-! The output of a frame stage and its hand-off, in the words of the claims (R80, R103, R104, R110 to R112, R115 to R118,
R153). -/

namespace Sys2Proof.Machine

/-! ### Cover and fill -/

theorem PlayState.plays_iff (x : PlayState) : x.plays = true ↔ x = .playing ∨ x = .holdover := by
  cases x <;> decide

/-- The applying entry is at the lowest number in use that names the stream, so what it supplies is what the model reads. -/
theorem State.coverSupplied_eq (s : State) (k : StreamId) : s.coverSupplied k = s.coverRead k := by
  simp only [State.coverSupplied, State.coverRead, State.applyingEntry, find?_toList_eq_find?_finRange,
    PlayState.plays_iff]
  cases (List.finRange 8).find? fun n => s.cover[n].inUse && decide (s.cover[n].primary = k) with
  | none => rfl
  | some n => rfl

theorem fillOf_eq (m : FillMethod) (v : Sample) : fillOf m v = m.value v := by
  cases m <;> rfl

theorem Stream.fillIn_eq (st : Stream) (cover : Option (Nat × Frame)) : st.fillIn cover = st.concealment cover := by
  refine Vector.ext fun i hi => ?_
  simp only [Stream.fillIn, Stream.concealment, perChannel, coverValue, Vector.getElem_ofFn, fillOf_eq]
  rcases cover with - | ⟨n, f⟩
  · rfl
  · by_cases h : i < n <;> simp only [h, if_true, if_false, Option.getD_some, Option.getD_none]

/-- Cover alone is the concealment frame of a stream whose fill method is ZERO (R110, R118). -/
theorem Stream.coverAlone_eq (st : Stream) (cover : Option (Nat × Frame)) : st.coverAlone cover = st.coverOnly cover :=
  Stream.fillIn_eq { st with inForce := { st.inForce with fill := .zero } } cover

theorem Stream.averaged_eq (st : Stream) (a b : Frame) : st.averaged a b = st.averageFrames a b := rfl

/-! ### The hand-off to the detector -/

theorem State.handToDetector_eq (s : State) (k : StreamId) (formedIn : PlayState) (out : Frame) :
    s.handToDetector k formedIn out = s.detects k formedIn out := by
  refine State.modStream_congr ?_
  simp only [Stream.enterPeak, PlayState.plays_iff, peakOf]
  cases hw : ((s.closePeak k).stream k).inForce.watch with
  | none => rfl
  | some w => by_cases hp : formedIn = .playing ∨ formedIn = .holdover <;> simp only [hp, if_true, if_false]

/-- A frame formed outside PLAYING and HOLDOVER leaves the block peak to its close (R153). -/
theorem State.handToDetector_not_plays (s : State) (k : StreamId) {formedIn : PlayState} (out : Frame)
    (h : formedIn.plays = false) : s.handToDetector k formedIn out = s.closePeak k := by
  refine State.modStream_of_fixed ?_
  simp only [Stream.enterPeak, h]
  split <;> rfl

/-! ### The output -/

section
variable {s : State} {k : StreamId} {a b : Option Frame} {cover : Option (Nat × Frame)}

theorem State.playedOutput_none (h : (s.stream k).slipMade = .none) (ha : s.frameAt k (s.stream k).playPoint = a)
    (hc : s.coverSupplied k = cover) : s.playedOutput k =
      ⟨a.getD ((s.stream k).fillIn cover), a.isNone, a.isNone && cover.isSome⟩ := by
  simp only [State.playedOutput, h, ha, ← s.coverSupplied_eq, hc, ← Stream.fillIn_eq]
  cases a <;> rfl

theorem State.playedOutput_drop (h : (s.stream k).slipMade = .drop) (ha : s.frameAt k (s.stream k).playPoint = a)
    (hb : s.frameAt k ((s.stream k).playPoint + 1) = b) (hc : s.coverSupplied k = cover) : s.playedOutput k =
      ⟨(s.stream k).averaged (a.getD ((s.stream k).fillIn cover)) (b.getD ((s.stream k).fillIn cover)),
        a.isNone || b.isNone, (a.isNone || b.isNone) && cover.isSome⟩ := by
  simp only [State.playedOutput, h, ha, hb, ← s.coverSupplied_eq, hc, ← Stream.fillIn_eq, Stream.averaged_eq]

theorem State.playedOutput_insert (h : (s.stream k).slipMade = .insert)
    (ha : s.frameAt k (s.stream k).playPoint = a) (hc : s.coverSupplied k = cover) : s.playedOutput k =
      ⟨(s.stream k).averaged (s.stream k).lastOut (a.getD ((s.stream k).fillIn cover)), a.isNone,
        a.isNone && cover.isSome⟩ := by
  simp only [State.playedOutput, h, ha, ← s.coverSupplied_eq, hc, ← Stream.fillIn_eq, Stream.averaged_eq]

theorem State.formOutput_plays (h : (s.stream k).state = .playing ∨ (s.stream k).state = .holdover) :
    s.formOutput k = s.playedOutput k := by
  rcases h with h | h <;> simp only [State.formOutput, h]

theorem State.formOutput_cover (h : (s.stream k).state = .acquire ∨ (s.stream k).state = .filling)
    (hc : s.coverSupplied k = cover) : s.formOutput k = ⟨(s.stream k).coverAlone cover, false, cover.isSome⟩ := by
  rcases h with h | h <;> simp only [State.formOutput, h, ← s.coverSupplied_eq, hc, Stream.coverAlone_eq]

theorem State.formOutput_idle (h : (s.stream k).state = .idle) : s.formOutput k = ⟨Frame.zero, false, false⟩ := by
  simp only [State.formOutput, h]

end

end Sys2Proof.Machine
end

section
/-! The frame stage (R69, R76, R78 to R83, R103 to R106, R118, R121). -/

namespace Sys2Proof.Machine

/-! ### What a frame stage changes -/

theorem Stream.reachesFillStart_iff (st : Stream) : st.reachesFillStart = true ↔
    st.state = .filling ∧ st.playPoint + 1 = st.fillStart := by
  simp [Stream.reachesFillStart]

section
variable {s : State} {k : StreamId} {x : PlayState} {out : Frame} {concealed covered : Bool} {f : Stream → Stream}

/-- A frame stage that does not enter PLAYING is its change of the stream and the hand-off to the detector (R78, R83). -/
theorem State.frameStage_stays (hx : (s.stream k).state = x) (hr : ¬ (s.stream k).reachesFillStart = true)
    (ho : s.formOutput k = ⟨out, concealed, covered⟩)
    (hf : (s.stream k).staged ⟨out, concealed, covered⟩ = f (s.stream k)) :
    s.frameStage k = (s.modStream k f).detects k x out := by
  have hm : (s.modStream k fun t => t.staged ⟨out, concealed, covered⟩) = s.modStream k f := State.modStream_congr hf
  rw [← State.handToDetector_eq, ← hm, ← hx]
  simp [State.frameStage, hr, ho]

/-- A frame formed outside PLAYING and HOLDOVER leaves the block peak to its close (R153). -/
theorem State.frameStage_not_plays (hp : (s.stream k).state.plays = false) (hr : ¬ (s.stream k).reachesFillStart = true)
    (ho : s.formOutput k = ⟨out, concealed, covered⟩)
    (hf : (s.stream k).staged ⟨out, concealed, covered⟩ = f (s.stream k)) :
    s.frameStage k = (s.modStream k f).closePeak k := by
  rw [State.frameStage_stays rfl hr ho hf, ← State.handToDetector_eq, State.handToDetector_not_plays _ _ _ hp]

/-- The frame stage that enters PLAYING latches LOCKED after the close of the block peak (R69, log 30). -/
theorem State.frameStage_enters (hr : (s.stream k).reachesFillStart = true)
    (ho : s.formOutput k = ⟨out, concealed, covered⟩)
    (hf : ((s.stream k).staged ⟨out, concealed, covered⟩).enterPlaying = f (s.stream k)) :
    s.frameStage k = ((s.modStream k f).closePeak k).latch .locked k.number := by
  have hs : (s.stream k).state = .filling := ((s.stream k).reachesFillStart_iff.mp hr).1
  have hm : (s.modStream k fun t => (t.staged ⟨out, concealed, covered⟩).enterPlaying) = s.modStream k f :=
    State.modStream_congr hf
  rw [← hm, ← State.handToDetector_not_plays _ k out (rfl : PlayState.filling.plays = false)]
  simp [State.frameStage, hr, ho, hs]

end

/-! ### The slip made -/

/-- Drop frames and insert frames are made in PLAYING alone (R81). -/
theorem Stream.slipMade_iff (st : Stream) {slip : Slip} (hn : slip ≠ .none) :
    st.slipMade = slip ↔ st.state = .playing ∧ st.slipDue = slip := by
  by_cases h : st.state = .playing <;> simp [Stream.slipMade, h, hn.symm]

section
variable {s : State} {k : StreamId}

/-- The boundary stage takes a slip away by starving the stream, and brings none (R70, R81). -/
theorem State.slipMade_boundaryStage_iff {slip : Slip} (hn : slip ≠ .none) :
    ((s.boundaryStage k).stream k).slipMade = slip ↔
      (s.stream k).state = .playing ∧ (s.stream k).slipDue = slip ∧ ¬ (s.stream k).starves = true := by
  rw [Stream.slipMade_iff _ hn]
  cases hs : (s.stream k).state with
  | playing =>
    rw [State.boundaryStage_playing hs]
    by_cases hv : (s.stream k).starves = true
    · simp [hv, State.stream_raise]
    · simp [hv, hs]
  | holdover =>
    rw [State.boundaryStage_holdover hs]
    by_cases hv : (s.stream k).holdoverEnds = true
    · simp [hv, ← State.relock_eq, State.stream_relock, Stream.relocked]
    · simp [hv, hs]
  | idle => simp [State.boundaryStage, hs]
  | acquire => simp [State.boundaryStage, hs]
  | filling => simp [State.boundaryStage, hs]

theorem State.atBoundary_iff (s : State) : s.atBoundary = true ↔ s.tb.phase = 0 := by simp [State.atBoundary]

theorem State.slipMade_beforeFrameStage_iff {slip : Slip} (hn : slip ≠ .none) :
    (s.beforeFrameStage k).slipMade = slip ↔ (s.stream k).state = .playing ∧ (s.stream k).slipDue = slip
      ∧ ¬ (s.tb.phase = 0 ∧ (s.stream k).starves = true) := by
  by_cases hp : s.tb.phase = 0
  · rw [State.beforeFrameStage, if_pos (s.atBoundary_iff.mpr hp), State.slipMade_boundaryStage_iff hn]
    simp only [hp, true_and]
  · rw [State.beforeFrameStage, if_neg (mt s.atBoundary_iff.mp hp), Stream.slipMade_iff _ hn]
    simp only [hp, false_and, not_false_eq_true, and_true]

/-! ### The work of a house frame -/

theorem State.playoutArises_iff (s : State) (k : StreamId) : s.playoutArises k = true ↔
    s.pins.resetLine = false ∧ (s.stream k).frameDue = true := by
  simp [State.playoutArises]

theorem State.playoutWork_off_boundary (h : s.tb.phase ≠ 0) : s.playoutWork k = s.frameStage k := by
  rw [State.playoutWork, if_neg (mt s.atBoundary_iff.mp h)]

/-- There is no boundary stage outside PLAYING and HOLDOVER. -/
theorem State.playoutWork_not_plays (h : (s.stream k).state.plays = false) : s.playoutWork k = s.frameStage k := by
  have hb : s.boundaryStage k = s := by
    unfold State.boundaryStage
    split <;> simp_all [PlayState.plays]
  rw [State.playoutWork, hb, ite_self]

/-- A stream that stays in PLAYING counts the boundary as a quiet block before its frame stage (R84). -/
theorem State.playoutWork_playing (hs : (s.stream k).state = .playing)
    (hv : ¬ (s.tb.phase = 0 ∧ (s.stream k).starves = true)) :
    s.playoutWork k = (if s.tb.phase = 0 then
      s.modStream k fun t => { t with quiet := min (t.quiet + 1) 65535 } else s).frameStage k := by
  by_cases hp : s.tb.phase = 0
  · rw [State.playoutWork, if_pos (s.atBoundary_iff.mpr hp), if_pos hp, State.boundaryStage_playing hs,
      if_neg fun hy => hv ⟨hp, hy⟩]
    exact congrArg (·.frameStage k) (State.modStream_congr rfl)
  · rw [State.playoutWork_off_boundary hp, if_neg hp]

theorem State.exec_playoutEngineWork (s : State) (k : StreamId) :
    exec (.playoutEngineWork k) s = .next (if s.playoutArises k = true then s.playoutWork k else s) := rfl

theorem State.exec_enterPlaying (s : State) (k : StreamId) : exec (.enterPlaying k) s =
    .next (if s.playoutArises k = true ∧ (s.stream k).reachesFillStart = true then s.playoutWork k else s) := by
  simp [exec, execEnterPlaying]

theorem State.exec_dropFrame (s : State) (k : StreamId) : exec (.dropFrame k) s =
    .next (if s.playoutArises k = true ∧ (s.beforeFrameStage k).slipMade = .drop then s.playoutWork k else s) := by
  simp [exec, execDropFrame]

theorem State.exec_insertFrame (s : State) (k : StreamId) : exec (.insertFrame k) s =
    .next (if s.playoutArises k = true ∧ (s.beforeFrameStage k).slipMade = .insert then s.playoutWork k else s) := by
  simp [exec, execInsertFrame]

/-- The work outside PLAYING and HOLDOVER that does not enter PLAYING: a change of the stream and the close of the block
peak. -/
theorem State.exec_playoutEngineWork_not_plays {out : Frame} {concealed covered : Bool} {f : Stream → Stream}
    (ha : s.playoutArises k = true) (hp : (s.stream k).state.plays = false)
    (hr : ¬ (s.stream k).reachesFillStart = true) (ho : s.formOutput k = ⟨out, concealed, covered⟩)
    (hf : (s.stream k).staged ⟨out, concealed, covered⟩ = f (s.stream k)) :
    exec (.playoutEngineWork k) s = .next ((s.modStream k f).closePeak k) := by
  rw [State.exec_playoutEngineWork, if_pos ha, State.playoutWork_not_plays hp, State.frameStage_not_plays hp hr ho hf]

end

/-! ### The statements -/

/-- Settles O35: in PLAYING with no slip due, and in HOLDOVER, the stage makes no slip and advances P by 1. -/
theorem frameStagePlaysOrConceals : Obligations.FrameStagePlaysOrConceals := by
  intro s k
  dsimp only
  refine ⟨fun h => ?_, fun hr hd hp => ?_, fun h => ?_⟩
  · have hslip : (s.stream k).slipMade = .none := by
      rcases h with ⟨hs, hd⟩ | hs <;> simp [Stream.slipMade, *]
    have hadv : (s.stream k).advance = 1 := by
      rcases h with ⟨hs, hd⟩ | hs <;> simp [Stream.advance, *]
    have hp : (s.stream k).state = .playing ∨ (s.stream k).state = .holdover := h.imp_left And.left
    have hi : (s.stream k).state ≠ .idle := by rcases hp with hs | hs <;> simp [hs]
    have hfill : (s.stream k).state ≠ .filling := by rcases hp with hs | hs <;> simp [hs]
    refine State.frameStage_stays rfl (fun hr => hfill ((s.stream k).reachesFillStart_iff.mp hr).1)
      ((State.formOutput_plays hp).trans (State.playedOutput_none hslip rfl rfl)) ?_
    simp [Stream.staged, Stream.originStaged, hi, hadv, Option.isSome_iff_ne_none]
  · rw [State.exec_playoutEngineWork, if_pos ((s.playoutArises_iff k).mpr ⟨hr, hd⟩), State.playoutWork_off_boundary hp]
  · have hn : ¬ s.playoutArises k = true := by
      rcases h with h | h <;> simp [State.playoutArises_iff, h]
    rw [State.exec_playoutEngineWork, if_neg hn]

/-- Settles O36: the two slips by the output they form, and their rows by when a slip is made. -/
theorem slipFramesAverageTwoFrames : Obligations.SlipFramesAverageTwoFrames := by
  intro s k
  dsimp only
  refine ⟨fun hs hd => ?_, fun hs hd => ?_, fun hr hf hs hstay => ?_, fun h => ?_⟩
  · have hslip : (s.stream k).slipMade = .drop := ((s.stream k).slipMade_iff (by decide)).mpr ⟨hs, hd⟩
    refine State.frameStage_stays hs (by simp [Stream.reachesFillStart_iff, hs])
      ((State.formOutput_plays (.inl hs)).trans (State.playedOutput_drop hslip rfl rfl rfl)) ?_
    simp [Stream.staged, Stream.originStaged, Stream.advance, hs, hd, Option.isSome_iff_ne_none]
  · have hslip : (s.stream k).slipMade = .insert := ((s.stream k).slipMade_iff (by decide)).mpr ⟨hs, hd⟩
    refine State.frameStage_stays hs (by simp [Stream.reachesFillStart_iff, hs])
      ((State.formOutput_plays (.inl hs)).trans (State.playedOutput_insert hslip rfl rfl)) ?_
    simp [Stream.staged, Stream.originStaged, Stream.advance, hs, hd, Option.isSome_iff_ne_none]
  · have ha : s.playoutArises k = true := (s.playoutArises_iff k).mpr ⟨hr, hf⟩
    have hv : ¬ (s.tb.phase = 0 ∧ (s.stream k).starves = true) := by
      rw [Stream.starves_iff]
      rintro ⟨hp, -, hna, hlimit⟩
      rcases hstay hp with hya | hlow
      · simp [hna] at hya
      · exact absurd hlimit (Nat.not_le.mpr hlow)
    have hmade (slip : Slip) (hn : slip ≠ .none) :
        (s.beforeFrameStage k).slipMade = slip ↔ (s.stream k).slipDue = slip := by
      simp only [State.slipMade_beforeFrameStage_iff hn, hs, hv, not_false_eq_true, true_and, and_true]
    simp only [State.exec_dropFrame, State.exec_insertFrame, State.exec_playoutEngineWork, ha, true_and, if_true,
      hmade .drop (by decide), hmade .insert (by decide), ← State.playoutWork_playing hs hv]
    exact ⟨fun hd => by simp [hd], fun hd => by simp [hd]⟩
  · have hnone (slip : Slip) (hn : slip ≠ .none) :
        ¬ (s.playoutArises k = true ∧ (s.beforeFrameStage k).slipMade = slip) := by
      rw [State.playoutArises_iff, State.slipMade_beforeFrameStage_iff hn, Stream.starves_iff]
      rintro ⟨⟨hr, hf⟩, hs, hd, hv⟩
      rcases h with h | h | h | h | ⟨hp, hna, hlimit⟩
      · simp [hr] at h
      · simp [hf] at h
      · exact h hs
      · exact hn (hd.symm.trans h)
      · exact hv ⟨hp, hs, hna, hlimit⟩
    rw [State.exec_dropFrame, State.exec_insertFrame, if_neg (hnone _ (by decide)), if_neg (hnone _ (by decide))]
    exact ⟨rfl, rfl⟩

/-- Settles O37: by the state of the stream, and in FILLING by whether the advance reaches t0. -/
theorem frameStageOutsidePlay : Obligations.FrameStageOutsidePlay := by
  intro s k hr hd
  dsimp only
  have ha : s.playoutArises k = true := (s.playoutArises_iff k).mpr ⟨hr, hd⟩
  refine ⟨fun hs => ?_, fun hs => ?_, fun hs hne => ?_, fun hs he => ?_⟩
  · refine State.exec_playoutEngineWork_not_plays ha (by rw [hs]; rfl) (by simp [Stream.reachesFillStart_iff, hs])
      (State.formOutput_idle hs) ?_
    simp [Stream.staged, Stream.originStaged, Stream.advance, hs, Frame.zero]
  · refine State.exec_playoutEngineWork_not_plays ha (by rw [hs]; rfl) (by simp [Stream.reachesFillStart_iff, hs])
      (State.formOutput_cover (.inl hs) rfl) ?_
    simp [Stream.staged, Stream.originStaged, Stream.advance, hs, Option.isSome_iff_ne_none]
  · refine State.exec_playoutEngineWork_not_plays ha (by rw [hs]; rfl)
      (fun hreach => hne ((s.stream k).reachesFillStart_iff.mp hreach).2) (State.formOutput_cover (.inr hs) rfl) ?_
    simp [Stream.staged, Stream.originStaged, Stream.advance, hs, Option.isSome_iff_ne_none]
  · have hreach : (s.stream k).reachesFillStart = true := (s.stream k).reachesFillStart_iff.mpr ⟨hs, he⟩
    rw [State.exec_playoutEngineWork, State.exec_enterPlaying, if_pos ha, if_pos ⟨ha, hreach⟩,
      State.playoutWork_not_plays (by rw [hs]; rfl)]
    refine ⟨congrArg _ (State.frameStage_enters hreach (State.formOutput_cover (.inr hs) rfl) ?_), rfl⟩
    simp [Stream.staged, Stream.enterPlaying, Stream.originStaged, Stream.advance, hs, Option.isSome_iff_ne_none,
      Servo.zero]

end Sys2Proof.Machine
end

section
/-! The servo step in PLAYING (R90 to R98). -/

namespace Sys2Proof.Machine

theorem outsideDeadband_iff (t : Tuning) (s : Int) :
    outsideDeadband t s = true ↔ 1 ≤ t.gain ∧ t.deadband < s.natAbs / 16 := by
  simp [outsideDeadband, Nat.one_le_iff_ne_zero]

theorem unclampedRate_eq (t : Tuning) (s : Int) :
    unclampedRate t s = if 1 ≤ t.gain ∧ t.deadband < s.natAbs / 16 then s.natAbs * t.gain / 16 else 0 := by
  simp only [unclampedRate, outsideDeadband_iff]

theorem Servo.schedules_iff (before after : Servo) : before.schedules after = true ↔ 65536 ≤ before.q + after.r :=
  decide_eq_true_iff

theorem Servo.limitHolds_iff (v : Servo) (t : Tuning) :
    v.limitHolds t = true ↔ (1 ≤ t.gain ∧ t.deadband < v.s.natAbs / 16) ∧ min t.rmax 4096 < v.unclamped := by
  rw [Servo.limitHolds, Bool.and_eq_true, outsideDeadband_iff, decide_eq_true_eq, Tuning.effRmax]

/-- A limit that holds is a raise of SERVO_LIMIT: it is latched where it was inactive (R94, R161). -/
theorem State.setServoLimit_true (s : State) (k : StreamId) : s.setServoLimit k true =
    if (s.stream k).alarms.servoLimit then s
    else (s.modStream k fun st => { st with alarms := { st.alarms with servoLimit := true } }).latch .servoLimit
      (k.val + 1) := rfl

theorem State.exec_servoStep_playing {s : State} {k : StreamId} (hr : s.pins.resetLine = false)
    (hd : (s.stream k).stepDue = true) (he : (s.stream k).enabled = true) (hs : (s.stream k).state = .playing) :
    exec (.servoStep k) s = .next ((s.modStream k Stream.stepPlaying).setServoLimit k
      ((s.stream k).stepped.limitHolds (s.stream k).closing)) := by
  simp [exec, execServoStep, State.servoWork, hr, hd, he, hs]

/-- Settles O33: the values written out are those of the model's step, and SERVO_LIMIT follows by whether its limit
holds. -/
theorem servoStepInPlaying : Obligations.ServoStepInPlaying := by
  intro s k hr hd he hs st w l e S outside rmax u r dir q next alarmed
  have hstepped : (s.stream k).stepped =
      { s := S, r := r, q := if 65536 ≤ q then q - 65536 else q, direction := dir, lead := l, error := e,
        unclamped := u } := by
    simp only [Stream.stepped, Servo.step, unclampedRate_eq]
    rfl
  have hnext : s.modStream k Stream.stepPlaying = next := by
    refine State.modStream_congr ?_
    simp only [Stream.stepPlaying, Servo.schedules_iff, hstepped]
    rfl
  have hlimit : st.stepped.limitHolds w = true ↔ outside ∧ rmax < u := by
    rw [Servo.limitHolds_iff, hstepped]
  have halarms : (next.stream k).alarms = st.alarms := by rw [State.stream_modStream_same]
  rw [State.exec_servoStep_playing hr hd he hs, hnext]
  by_cases hout : outside ∧ rmax < u
  · rw [if_pos hout, hlimit.mpr hout, State.setServoLimit_true, halarms]
  · rw [if_neg hout, Bool.eq_false_iff.mpr (mt hlimit.mp hout), State.setServoLimit_false]

end Sys2Proof.Machine
end

section
/-! The requests WRITE of ROUTE_STANDBY, COVER and PATTERN (R114, R123 to R125, R141, R183, R192, section 12.3). -/

namespace Sys2Proof.Machine

/-! ### The ranges of one record -/

theorem readSource_eq_none_iff : ∀ v, readSource v = none ↔ 1 < v
  | 0 => by decide
  | 1 => by decide
  | v + 2 => by simp [readSource]

theorem readEnableSource_eq_none_iff : ∀ v, readEnableSource v = none ↔ 1 < v
  | 0 => by decide
  | 1 => by decide
  | v + 2 => by simp [readEnableSource]

theorem readFin_eq_none_iff (n v : Nat) : readFin n v = none ↔ n ≤ v := by simp [readFin]

theorem readStreamId_eq_none_iff (v : Nat) : readStreamId v = none ↔ v = 0 ∨ 64 < v := by
  unfold readStreamId
  split
  · simp [*]
  · rw [readFin_eq_none_iff]
    omega

theorem readRouteKinds_eq_none_iff (b : List Byte) : readRouteKinds b = none ↔
    1 < field b 0 1 ∨ 1 < field b 1 1 ∨ 1 < field b 7 1 ∨ 1 < field b 8 1 ∨ 1 < field b 10 1 := by
  simp only [← readFlag_eq_none_iff, ← readSource_eq_none_iff (field b 1 1),
    ← readEnableSource_eq_none_iff (field b 8 1)]
  unfold readRouteKinds
  split
  · simp [*]
  · rename_i hnot
    refine iff_of_true rfl (by_contra fun hall => ?_)
    simp only [not_or, ← ne_eq, Option.ne_none_iff_exists'] at hall
    obtain ⟨⟨_, hu⟩, ⟨_, hsrc⟩, ⟨_, ham⟩, ⟨_, hes⟩, ⟨_, hoe⟩⟩ := hall
    exact hnot _ _ _ _ _ hu hsrc ham hes hoe

/-- Every byte names a slot, so of a route record's numbers four can be out of range. -/
theorem readRouteNumbers_eq_none_iff (b : List Byte) : readRouteNumbers b = none ↔
    (field b 2 1 = 0 ∨ 64 < field b 2 1) ∨ 16 ≤ field b 3 1 ∨ 32768 ≤ field b 5 2 ∨ 8 ≤ field b 9 1 := by
  have hslot := readFin_val (⟨field b 4 1, field_lt b 4 1⟩ : SlotId)
  simp only [← readStreamId_eq_none_iff, ← readFin_eq_none_iff]
  unfold readRouteNumbers
  split
  · simp [*]
  · rename_i hnot
    refine iff_of_true rfl (by_contra fun hall => ?_)
    simp only [not_or, ← ne_eq, Option.ne_none_iff_exists'] at hall
    obtain ⟨⟨_, hst⟩, ⟨_, hch⟩, ⟨_, hg⟩, ⟨_, hcl⟩⟩ := hall
    exact hnot _ _ _ _ _ hst hch hslot hg hcl

theorem readRouteRecord_eq_none_iff (b : List Byte) :
    readRouteRecord b = none ↔ readRouteKinds b = none ∨ readRouteNumbers b = none := by
  unfold readRouteRecord
  cases readRouteKinds b <;> cases readRouteNumbers b <;> simp

/-- A cover entry is refused where its flag or a stream is out of range, or where its two streams are one. -/
theorem readCoverEntry_eq_none_iff (b : List Byte) : readCoverEntry b = none ↔
    readFlag (field b 0 1) = none ∨ readStreamId (field b 1 1) = none ∨ readStreamId (field b 2 1) = none
      ∨ field b 1 1 = field b 2 1 := by
  unfold readCoverEntry
  split
  · rename_i u p c hu hp hc
    have hp' := (readStreamId_eq_some_iff _ _).mp hp
    have hc' := (readStreamId_eq_some_iff _ _).mp hc
    have hsame : field b 1 1 = field b 2 1 ↔ p = c := by rw [hp', hc', Nat.add_right_cancel_iff, Fin.ext_iff]
    simp [hu, hp, hc, hsame]
  · rename_i hnot
    refine iff_of_true rfl (by_contra fun hall => ?_)
    simp only [not_or, ← ne_eq, Option.ne_none_iff_exists'] at hall
    obtain ⟨⟨_, hu⟩, ⟨_, hp⟩, ⟨_, hc⟩, -⟩ := hall
    exact hnot _ _ _ hu hp hc

/-! ### The places that a WRITE names, with their new records -/

section
variable {α : Type} {N i n : Nat} {rs : List α}

theorem namedPlaces_succ (h : i < N) : namedPlaces N i (n + 1) = ⟨i, h⟩ :: namedPlaces N (i + 1) n := by
  simp [namedPlaces, named, List.range'_succ, readFin, h]

/-- The record that a WRITE has for a place is that of the place's number in the run. -/
theorem lookup_zip_namedPlaces (h : i + n ≤ N) (hn : rs.length = n) (k : Fin N) :
    ((namedPlaces N i n).zip rs).lookup k = if i ≤ k.val then rs[k.val - i]? else none := by
  induction n generalizing i rs with
  | zero =>
    obtain rfl := List.length_eq_zero_iff.mp hn
    simp
  | succ n ih =>
    obtain ⟨r, rs, rfl⟩ := List.exists_cons_of_length_eq_add_one hn
    rw [namedPlaces_succ (by omega), List.zip_cons_cons, List.lookup_cons, ih (by omega) (by simpa using hn)]
    obtain hlt | heq | hgt := Nat.lt_trichotomy k.val i
    · have hb : (k == ⟨i, by omega⟩) = false := by simp [Fin.ext_iff, hlt.ne]
      simp [hb, Nat.not_le.mpr hlt, show ¬ i + 1 ≤ k.val by omega]
    · have hb : (k == ⟨i, by omega⟩) = true := by simp [Fin.ext_iff, heq]
      simp [hb, heq]
    · have hb : (k == ⟨i, by omega⟩) = false := by simp [Fin.ext_iff, hgt.ne']
      obtain ⟨d, hd⟩ : ∃ d, k.val = i + 1 + d := ⟨k.val - (i + 1), by omega⟩
      simp [hb, hd, show i + 1 + d - i = d + 1 by omega, show i ≤ i + 1 + d by omega]

theorem writePlaces_namedPlaces (table : Vector α N) (h : i + n ≤ N) (hn : rs.length = n) :
    writePlaces table ((namedPlaces N i n).zip rs) = Vector.ofFn fun j : Fin N =>
      if i ≤ j.val then (rs[j.val - i]?).getD table[j] else table[j] := by
  simp only [writePlaces, lookup_zip_namedPlaces h hn]
  refine congrArg Vector.ofFn (funext fun j => ?_)
  split <;> rfl

/-- Where the new records are given by their numbers in the run, a named place takes its own. -/
theorem writePlaces_namedPlaces_map (table : Vector α N) (f : Nat → α) (h : i + n ≤ N) :
    writePlaces table ((namedPlaces N i n).zip ((List.range n).map f)) = Vector.ofFn fun j : Fin N =>
      if i ≤ j.val ∧ j.val < i + n then f (j.val - i) else table[j] := by
  rw [writePlaces_namedPlaces table h (by simp)]
  refine congrArg Vector.ofFn (funext fun j => ?_)
  by_cases hle : i ≤ j.val
  · by_cases hlt : j.val < i + n
    · simp [hle, hlt, show j.val - i < n by omega]
    · simp [hle, hlt, show ¬ j.val - i < n by omega]
  · simp [hle]

end

/-! ### The run of pattern entries -/

/-- Every run of pattern entries is read, each sample from its own three bytes (R141). -/
theorem readRecords_readPatternEntry (n : Nat) (b : List Byte) : readRecords readPatternEntry 3 n b =
    some ((List.range n).map fun j => BitVec.ofNat 24 (field b (3 * j) 3)) := by
  induction n generalizing b with
  | zero => rfl
  | succ n ih =>
    rw [readRecords_succ_eq_some_iff]
    refine ⟨_, _, rfl, ih (b.drop 3), ?_⟩
    simp [List.range_succ_eq_map, field, List.take_take, Function.comp_def, Nat.mul_succ, Nat.add_comm]

/-! ### The three requests -/

/-- A WRITE that the part takes, unprotected, with an index and a count that name records of its object and data for all
of them, is executed (R183). -/
theorem State.handle_write {s : State} {code : Byte} {m : Envelope} {o : ObjectKind} (ho : objectKind code = some o)
    (ha : RequestKind.write.applies code = true) (h : s.Takes ⟨2, code, m⟩) (hp : s.pins.protect = false)
    (hn : Names m o.range.1 o.range.2) (hd : m.count.toNat * o.recordSize ≤ m.data.length) :
    s.handle ⟨2, code, m⟩ = (s.take ⟨2, code, m⟩).doWrite ⟨2, code, m⟩ o := by
  have hi : Request.indexPasses ⟨2, code, m⟩ .write = true := by
    simp only [Request.indexPasses, ho]
    exact hn.indexOk
  have hdata : Request.dataPasses ⟨2, code, m⟩ .write = true := by
    simp only [Request.dataPasses, ho]
    exact decide_eq_true hd
  rw [h.handle, State.decideRequest_executes (k := .write) rfl (.inl (by simpa using hp)) ha hi hdata]
  simp only [State.execute, ho]

theorem Matrix.setStandby_eq (x : Matrix) (b : Bank) : x.setStandby b =
    { x with bank0 := if x.active = .bank0 then x.bank0 else b, bank1 := if x.active = .bank0 then b else x.bank1 } := by
  unfold Matrix.setStandby
  cases x.active <;> rfl

theorem State.writeRoutes_unread {s : State} {r : Request} (h : readRecords readRouteRecord 11 r.count r.env.data = none) :
    s.writeRoutes r = s.answer r .badValue [] := by simp [State.writeRoutes, routeRecordSize, h]

theorem State.writeRoutes_read {s : State} {r : Request} {rs : List RouteRecord}
    (h : readRecords readRouteRecord 11 r.count r.env.data = some rs) :
    s.writeRoutes r = State.answer
      { s with matrix := s.matrix.setStandby
                (writePlaces s.matrix.standbyBank ((namedPlaces 256 r.index r.count).zip rs)) } r .ok [] := by
  simp [State.writeRoutes, routeRecordSize, h]

theorem State.writeCovers_unread {s : State} {r : Request} (h : readRecords readCoverEntry 3 r.count r.env.data = none) :
    s.writeCovers r = s.answer r .badValue [] := by simp [State.writeCovers, coverEntrySize, h]

theorem State.writeCovers_read {s : State} {r : Request} {es : List CoverEntry}
    (h : readRecords readCoverEntry 3 r.count r.env.data = some es) : s.writeCovers r =
      State.answer { s with cover := writePlaces s.cover ((namedPlaces 8 r.index r.count).zip es) } r .ok [] := by
  simp [State.writeCovers, coverEntrySize, h]

/-- A WRITE of PATTERN has no value to refuse (R141). -/
theorem State.writePatterns_eq (s : State) (r : Request) : s.writePatterns r =
    State.answer
      { s with matrix := { s.matrix with
          shadow := writePlaces s.matrix.shadow ((namedPlaces 48 r.index r.count).zip
            ((List.range r.count).map fun j => BitVec.ofNat 24 (field r.env.data (3 * j) 3))) } } r .ok [] := by
  simp [State.writePatterns, patternEntrySize, readRecords_readPatternEntry]

/-- Settles O50: the ranges of the two records, and then each table with the named places written. -/
theorem writesOfRoutesCoverAndPattern : Obligations.WritesOfRoutesCoverAndPattern := by
  refine ⟨fun b => ?_, fun b => ?_, fun s m hp => ?_⟩
  · rw [readRouteRecord_eq_none_iff, readRouteKinds_eq_none_iff, readRouteNumbers_eq_none_iff]
    omega
  · rw [readCoverEntry_eq_none_iff, readFlag_eq_none_iff, readStreamId_eq_none_iff, readStreamId_eq_none_iff]
    simp only [or_assoc]
  intro i n
  refine ⟨fun h hn hd => ?_, fun h hn hd => ?_, fun h hn hd => ?_⟩
  · intro u
    have hexec : exec (.writeRouteStandby m) s = .next (u.writeRoutes ⟨2, 4, m⟩) :=
      congrArg Host.Outcome.next (State.handle_write (o := .routeStandby) rfl rfl h hp hn hd)
    have hi : i + n ≤ 256 := by simpa using hn.upTo
    rw [hexec]
    refine ⟨fun hnone => congrArg Host.Outcome.next (State.writeRoutes_unread hnone), fun rs hrs => ?_⟩
    have hbank := writePlaces_namedPlaces s.matrix.standbyBank hi (getElem?_of_readRecords hrs).1
    refine congrArg Host.Outcome.next ((State.writeRoutes_read (r := ⟨2, 4, m⟩) hrs).trans ?_)
    simp only [u, State.take_frame, Request.index, Request.count, Matrix.setStandby_eq, hbank, i, n]
  · intro u
    have hexec : exec (.writeCover m) s = .next (u.writeCovers ⟨2, 5, m⟩) :=
      congrArg Host.Outcome.next (State.handle_write (o := .cover) rfl rfl h hp hn hd)
    have hi : i + n ≤ 8 := by simpa using hn.upTo
    rw [hexec]
    refine ⟨fun hnone => congrArg Host.Outcome.next (State.writeCovers_unread hnone), fun es hes => ?_⟩
    have hcover := writePlaces_namedPlaces s.cover hi (getElem?_of_readRecords hes).1
    refine congrArg Host.Outcome.next ((State.writeCovers_read (r := ⟨2, 5, m⟩) hes).trans ?_)
    simp only [u, State.take_frame, Request.index, Request.count, hcover, i, n]
  · have hexec : exec (.writePattern m) s = .next ((s.take ⟨2, 6, m⟩).writePatterns ⟨2, 6, m⟩) :=
      congrArg Host.Outcome.next (State.handle_write (o := .pattern) rfl rfl h hp hn hd)
    have hi : i + n ≤ 48 := by simpa using hn.upTo
    have hshadow := writePlaces_namedPlaces_map s.matrix.shadow (fun j => BitVec.ofNat 24 (field m.data (3 * j) 3)) hi
    rw [hexec, State.writePatterns_eq]
    simp only [State.take_frame, Request.index, Request.count, hshadow, i, n]

end Sys2Proof.Machine
end

section
/-! The route matrix along every step: fade levels, transitions and the SWAP in progress (R133 to R138, R186, R190). -/

namespace Sys2Proof.Machine

/-! ### Slots out of transition -/

/-- No slot is in transition. -/
def Matrix.Settled (m : Matrix) : Prop := ∀ j : SlotId, m.slots[j].transition = .none

theorem Matrix.inTransition_iff (m : Matrix) : m.inTransition = true ↔ ∃ j : SlotId, m.slots[j].transition ≠ .none := by
  simp only [Matrix.inTransition, List.any_eq_true, Bool.not_eq_true', decide_eq_false_iff_not]
  constructor
  · rintro ⟨t, ht, hn⟩
    obtain ⟨i, hi, rfl⟩ := List.getElem_of_mem ht
    exact ⟨⟨i, by simpa using hi⟩, hn⟩
  · rintro ⟨j, hn⟩
    exact ⟨m.slots[j], by simp, hn⟩

@[simp] theorem Matrix.slot_endTransitions (m : Matrix) (j : SlotId) :
    m.endTransitions.slots[j] = m.slots[j].settled := by simp [Matrix.endTransitions]

theorem Matrix.endTransitions_settled (m : Matrix) : m.endTransitions.Settled := fun j => by
  rw [Matrix.slot_endTransitions]
  rfl

/-- Every slot as a reset leaves it (R133, R138). -/
theorem Matrix.settled_of_reset {m n : Matrix} (h : m.slots = n.slots.map Slot.resetSlot) : m.Settled := fun j => by
  simp [h, Slot.resetSlot]

theorem Matrix.powerOn_settled (cut : BitVec 8) : (Matrix.powerOn cut).Settled := fun j => by
  simp [Matrix.powerOn, Slot.powerOn]

/-! ### The exchange of the banks (R135, R136) -/

@[simp] theorem Matrix.activeBank_exchange (m : Matrix) : m.exchange.activeBank = m.standbyBank := rfl

@[simp] theorem Matrix.slot_exchange (m : Matrix) (j : SlotId) : m.exchange.slots[j] =
    if driverOf m.activeBank j = driverOf m.standbyBank j then m.slots[j]
    else { m.slots[j] with transition := .departing (driverOf m.activeBank j) } := by
  simp [Matrix.exchange]

/-- The exchange of banks that are alike starts no transition (R126, R136). -/
theorem Matrix.slots_exchange_of_alike {m : Matrix} (h : m.standbyBank = m.activeBank) :
    m.exchange.slots = m.slots := by
  ext1 i hi
  have hs := m.slot_exchange ⟨i, hi⟩
  rw [h, if_pos rfl] at hs
  exact hs

/-- The standby bank's records have no part in the active bank. -/
@[simp] theorem Matrix.activeBank_setStandby (m : Matrix) (b : Bank) : (m.setStandby b).activeBank = m.activeBank := by
  cases h : m.active <;> simp [Matrix.setStandby, Matrix.activeBank, Matrix.bank, h]

@[simp] theorem Matrix.standbyBank_setStandby (m : Matrix) (b : Bank) : (m.setStandby b).standbyBank = b := by
  cases h : m.active <;> simp [Matrix.setStandby, Matrix.standbyBank, Matrix.bank, BankId.other, h]

@[simp] theorem Matrix.setStandby_frame (m : Matrix) (b : Bank) :
    (m.setStandby b).active = m.active ∧ (m.setStandby b).swapWaiting = m.swapWaiting
      ∧ (m.setStandby b).slots = m.slots ∧ (m.setStandby b).live = m.live ∧ (m.setStandby b).shadow = m.shadow
      ∧ (m.setStandby b).cutHeld = m.cutHeld ∧ (m.setStandby b).due = m.due := by
  simp [Matrix.setStandby_eq]

/-! ### The SWAP in progress (R186) -/

@[simp] theorem State.completeSwap_inProgress (s : State) : s.completeSwap.inProgress = none := by
  unfold State.completeSwap
  split
  · assumption
  · rfl

/-! ### What a sound matrix reads -/

/-- The slots, the active bank, SWAP waiting, the request in progress and the reset line alone decide it. -/
theorem State.MatrixSound.congr {s t : State} (h : s.MatrixSound) (hslots : t.matrix.slots = s.matrix.slots)
    (hbank : t.matrix.activeBank = s.matrix.activeBank) (hwait : t.matrix.swapWaiting = s.matrix.swapWaiting)
    (hprog : t.inProgress = s.inProgress) (hline : t.pins.resetLine = true → s.pins.resetLine = true) :
    t.MatrixSound where
  fade := hslots ▸ h.fade
  transition := by
    rw [hslots, hbank]
    exact h.transition
  swap := by rw [hwait, hprog, h.swap]
  released hl := hprog.trans (h.released (hline hl))

/-- An event that leaves the matrix, the request in progress and the inputs as they were. -/
theorem State.MatrixSound.of_eq {s t : State} (h : s.MatrixSound) (hm : t.matrix = s.matrix := by simp)
    (hp : t.inProgress = s.inProgress := by simp) (hl : t.pins = s.pins := by simp) : t.MatrixSound :=
  h.congr (by rw [hm]) (by rw [hm]) (by rw [hm]) hp (by rw [hl]; exact id)

theorem State.matrixSound_of_settled {s : State} (fade : ∀ j : SlotId, s.matrix.slots[j].fade ≤ 48)
    (settled : s.matrix.Settled) (swap : s.matrix.swapWaiting = s.inProgress.isSome)
    (released : s.pins.resetLine = true → s.inProgress = none) : s.MatrixSound :=
  ⟨fade, fun j _ hd => Transition.noConfusion ((settled j).symm.trans hd), swap, released⟩

theorem State.matrixSound_of_reset {s t : State} (hs : t.matrix.slots = s.matrix.slots.map Slot.resetSlot)
    (swap : t.matrix.swapWaiting = t.inProgress.isSome) (released : t.pins.resetLine = true → t.inProgress = none) :
    t.MatrixSound :=
  State.matrixSound_of_settled (fun j => by simp [hs, Slot.resetSlot]) (Matrix.settled_of_reset hs) swap released

/-! ### The route matrix event -/

theorem fadeStep_le {m : Nat} (h : m ≤ 48) (opened : Bool) : fadeStep opened m ≤ 48 := by
  unfold fadeStep
  repeat' split
  all_goals omega

@[simp] theorem State.slot_formSlots (s : State) (j : SlotId) : s.formSlots.matrix.slots[j] =
    s.stepSlot s.matrix.slots[j] (driverRoute s.matrix.activeBank j) := by
  simp [State.formSlots]

@[simp] theorem State.formSlots_matrix (s : State) : s.formSlots.matrix.activeBank = s.matrix.activeBank
    ∧ s.formSlots.matrix.swapWaiting = s.matrix.swapWaiting := by
  simp [State.formSlots, Matrix.activeBank, Matrix.bank]

/-- The forming of the slots steps the fade levels, and reads the transitions without a change (R130, R133). -/
theorem State.MatrixSound.formSlots {s : State} (h : s.MatrixSound) : s.formSlots.MatrixSound where
  fade j := by
    rw [State.slot_formSlots]
    exact fadeStep_le (h.fade j) _
  transition j d hd := by
    rw [State.slot_formSlots] at hd
    simpa using h.transition j d hd
  swap := by simpa using h.swap
  released := by simpa using h.released

theorem State.MatrixSound.endTransitions {s : State} (h : s.MatrixSound) :
    State.MatrixSound { s with matrix := s.matrix.endTransitions } :=
  State.matrixSound_of_settled (fun j => by rw [Matrix.slot_endTransitions]; exact h.fade j)
    s.matrix.endTransitions_settled h.swap h.released

/-- A SWAP performed with no slot in transition: a slot enters one where its driver's identity changes alone, and no
request is in progress after it (R135, R136, R186). -/
theorem State.MatrixSound.performSwap {s : State} (h : s.MatrixSound) (hs : s.matrix.Settled) :
    s.performSwap.MatrixSound where
  fade j := by
    have hf := h.fade j
    simp only [State.performSwap, State.completeSwap_frame, State.latch_frame, Matrix.slot_exchange]
    split <;> exact hf
  transition j d := by
    simp only [State.performSwap, State.completeSwap_frame, State.latch_frame, Matrix.slot_exchange,
      Matrix.activeBank_exchange]
    split
    · rw [hs j]
      exact nofun
    · rintro ⟨⟩
      assumption
  swap := by simp [State.performSwap, Matrix.exchange]
  released _ := by simp [State.performSwap]

theorem State.MatrixSound.copyPattern {s : State} (h : s.MatrixSound) : s.copyPattern.MatrixSound := by
  unfold State.copyPattern
  split
  · exact h
  · exact h.congr rfl rfl rfl rfl id

theorem State.MatrixSound.matrixBoundary {s : State} (h : s.MatrixSound) : s.matrixBoundary.MatrixSound := by
  unfold State.matrixBoundary
  dsimp only
  split
  · exact (h.endTransitions.performSwap s.matrix.endTransitions_settled).copyPattern
  · exact h.endTransitions.copyPattern

theorem State.MatrixSound.matrixWork {s : State} (h : s.MatrixSound) : s.matrixWork.MatrixSound := by
  unfold State.matrixWork
  split
  · exact h.matrixBoundary.formSlots
  · exact h.formSlots

/-! ### The timebase and the agent -/

/-- Of the matrix a house frame marks the event due, and nothing else (R54, R66). -/
theorem State.houseFrame_matrix (s : State) (mark : Bool) : (s.houseFrame mark).matrix =
    if s.pins.resetLine then s.matrix else { s.matrix with due := true } := by
  unfold State.houseFrame
  dsimp only
  split
  · simp only [State.latch_frame]
    split <;> rfl
  · split <;> rfl

theorem State.MatrixSound.houseFrame {s : State} (h : s.MatrixSound) (mark : Bool) :
    (s.houseFrame mark).MatrixSound := by
  have hm := s.houseFrame_matrix mark
  cases hr : s.pins.resetLine
  · rw [if_neg (by simp [hr])] at hm
    exact h.congr (by rw [hm]) (by rw [hm]; rfl) (by rw [hm]) (by simp) (by simp)
  · rw [if_pos hr] at hm
    exact h.of_eq hm

theorem State.MatrixSound.lockReference {s : State} (h : s.MatrixSound) (mark : Bool) :
    (s.lockReference mark).MatrixSound := by
  have locked : (State.clearRefLost { s with
      tb := { s.tb with ref := .lockedRef, goodRun := 0, missedRun := 0, spanOpen := false } }).MatrixSound := h.of_eq
  exact (locked.houseFrame mark).of_eq (by simp [State.lockReference])

theorem State.MatrixSound.edge {s : State} (h : s.MatrixSound) (e : Edge) : (s.edge e).MatrixSound := by
  unfold State.edge
  repeat' split
  · exact h
  · exact State.MatrixSound.houseFrame h.of_eq _
  · exact h
  · exact h.lockReference e.mark
  all_goals exact h.of_eq

theorem State.MatrixSound.missedEdge {s : State} (h : s.MatrixSound) : s.missedEdge.MatrixSound := by
  unfold State.missedEdge
  split <;> exact (h.houseFrame false).of_eq

/-- A change of the standby bank, answered, is out of sight of the slots (R125, R126). -/
theorem State.MatrixSound.answer_setStandby {s : State} (h : s.MatrixSound) (b : Bank) (r : Request) (res : Result)
    (data : List Byte) : (State.answer { s with matrix := s.matrix.setStandby b } r res data).MatrixSound :=
  h.congr (by simp) (by simp) (by simp) (by simp) (by simp)

theorem State.MatrixSound.doWrite {s : State} (h : s.MatrixSound) (r : Request) (o : ObjectKind) :
    (s.doWrite r o).MatrixSound := by
  cases o
  case routeStandby =>
    unfold State.doWrite State.writeRoutes
    dsimp only
    split
    · exact h.of_eq
    · exact h.answer_setStandby ..
  case pattern =>
    unfold State.doWrite
    rw [State.writePatterns_eq]
    exact h.congr (by simp) (by simp [Matrix.activeBank, Matrix.bank]) (by simp) (by simp) (by simp)
  all_goals exact h.of_eq (by simp [State.doWrite])

/-- A request that is executed: a SWAP begins to wait as it becomes the request in progress, and no other request
touches either (R134, R186). -/
theorem State.MatrixSound.execute {s : State} (h : s.MatrixSound) (hr : s.pins.resetLine = false) (r : Request)
    (k : RequestKind) : (s.execute r k).MatrixSound := by
  cases k
  case write =>
    unfold State.execute
    dsimp only
    split
    · exact h.doWrite r _
    · exact h.of_eq
  case swap => exact ⟨h.fade, h.transition, rfl, fun ha => absurd ha (by simp [State.execute, State.doSwap, hr])⟩
  case copy => exact h.answer_setStandby ..
  case reset =>
    have answered : (s.answer r .ok []).MatrixSound := h.of_eq
    unfold State.execute State.doReset
    dsimp only
    split
    · exact State.matrixSound_of_reset rfl answered.swap answered.released
    · exact State.matrixSound_of_reset rfl answered.swap answered.released
  all_goals
    unfold State.execute
    dsimp only
    repeat' split
    all_goals exact h.of_eq

theorem State.MatrixSound.handle {s : State} (h : s.MatrixSound) (r : Request) : (s.handle r).MatrixSound := by
  cases hr : s.pins.resetLine
  case true =>
    rw [State.handle_of_asserted hr]
    exact h
  unfold State.handle State.decideRequest
  repeat' split
  · exact h.of_eq
  · exact h.of_eq
  · exact State.MatrixSound.execute h.of_eq (by simpa using hr) r _
  · exact h

theorem State.MatrixSound.handOver {s : State} (h : s.MatrixSound) (p : Port) (r : Reception) :
    (s.handOver p r).MatrixSound := by
  cases r with
  | segment k g => exact h.of_eq (by simp [State.handOver]) (by simp [State.handOver])
  | request r => exact h.handle r
  | badFcs => exact h
  | foreign => exact h
  | malformed => exact h
  | unadmitted => exact h

/-! ### Every step -/

/-- The matrix's own events, the resets, house frames and requests keep the agreement; no other event reaches what it
reads, but for the cut lines held. -/
theorem Effect.matrixSound {s t : State} (he : Effect s t) (h : s.MatrixSound) : t.MatrixSound := by
  cases he with
  | powerOn =>
    exact State.matrixSound_of_settled (fun j => by simp [State.powerOn, Matrix.powerOn, Slot.powerOn])
      (Matrix.powerOn_settled _) rfl fun _ => rfl
  | lineReset => exact State.matrixSound_of_reset rfl rfl fun _ => rfl
  | lineRelease => exact h.congr rfl rfl rfl rfl nofun
  | cut levels m hm =>
    rcases hm with rfl | rfl
    · exact h.congr rfl rfl rfl rfl id
    · exact h.congr rfl rfl rfl rfl id
  | protect => exact h.congr rfl rfl rfl rfl id
  | receive p f => exact State.MatrixSound.handOver h.of_eq p (s.judgeFrame p f)
  | edge e => exact h.edge e
  | missedEdge => exact h.missedEdge
  | houseFrame => exact h.houseFrame false
  | matrix => exact h.matrixWork
  | request r => exact h.handle r
  | _ => exact h.of_eq

/-- Settles O11: transitions start at an exchange that finds none, and SWAP waiting follows the request in progress. -/
theorem stepKeepsMatrixAndSwapInAgreement : Obligations.StepKeepsMatrixAndSwapInAgreement := fun _ _ hs h =>
  step_keeps (P := State.MatrixSound) (fun _ _ h => ⟨h.fade, h.transition, h.swap, h.released⟩)
    (fun _ _ he => he.matrixSound) h hs

end Sys2Proof.Machine
end

section
/-! The boundary work of the route matrix (R130, R134 to R137, R142, R186). -/

namespace Sys2Proof.Machine

/-! ### The banks and the transitions, in the words of the claims -/

theorem Matrix.endTransitions_eq (m : Matrix) : m.endTransitions =
    { m with slots := Vector.ofFn fun j => { m.slots[j] with transition := .none } } := by
  have hs : m.slots.map Slot.settled = Vector.ofFn fun j : SlotId => { m.slots[j] with transition := .none } := by
    ext1 i hi
    simp [Slot.settled]
  rw [Matrix.endTransitions, hs]

/-- An exchange after the transitions have ended: a slot is in transition where its driver's identity changes, and
nowhere else (R136, R137). -/
theorem Matrix.exchange_endTransitions_eq (m : Matrix) : m.endTransitions.exchange =
    { m with
      active := m.active.other, swapWaiting := false,
      slots := Vector.ofFn fun j => { m.slots[j] with
        transition := if drivenBy m.activeBank j = drivenBy m.standbyBank j then .none
          else .departing (drivenBy m.activeBank j) } } := by
  have hslot (j : SlotId) : m.endTransitions.exchange.slots[j] = { m.slots[j] with
      transition := if drivenBy m.activeBank j = drivenBy m.standbyBank j then .none
        else .departing (drivenBy m.activeBank j) } := by
    rw [Matrix.slot_exchange, driverOf_eq_drivenBy, driverOf_eq_drivenBy, Matrix.slot_endTransitions]
    show (if drivenBy m.activeBank j = drivenBy m.standbyBank j then _ else _) = _
    split <;> rfl
  have hs : m.endTransitions.exchange.slots = Vector.ofFn fun j => m.endTransitions.exchange.slots[j] := by simp
  rw [show m.endTransitions.exchange = { m with
    active := m.active.other, swapWaiting := false, slots := m.endTransitions.exchange.slots } from rfl, hs]
  simp only [hslot]

theorem State.copyPattern_eq (s : State) : s.copyPattern = { s with matrix := { s.matrix with
    live := if s.dev.patternHold then s.matrix.live else s.matrix.shadow } } := by
  unfold State.copyPattern
  split <;> rfl

/-! ### The boundary work, with a SWAP waiting and without -/

theorem State.matrixBoundary_idle {s : State} (h : s.matrix.swapWaiting = false) : s.matrixBoundary =
    State.copyPattern { s with matrix := s.matrix.endTransitions } := by
  simp [State.matrixBoundary, Matrix.endTransitions, h]

theorem State.completeSwap_some {s : State} {r : Request} (h : s.inProgress = some r) : s.completeSwap =
    { s.answer r .ok [] with inProgress := none } := by
  simp [State.completeSwap, h]

theorem State.matrixBoundary_waiting {s : State} {r : Request} (h : s.matrix.swapWaiting = true)
    (hr : s.inProgress = some r) : s.matrixBoundary = State.copyPattern
      { (State.latch { s with matrix := s.matrix.endTransitions.exchange } .bankSwapped 0).answer r .ok [] with
        inProgress := none } := by
  unfold State.matrixBoundary
  dsimp only
  rw [if_pos (show s.matrix.endTransitions.swapWaiting = true from h), State.performSwap,
    State.completeSwap_some (r := r) (by simpa using hr)]

/-! ### The rows of the event -/

theorem State.exec_swapPerformed (s : State) : exec .swapPerformed s =
    .next (if s.matrixArises && decide (s.tb.phase = 0) && s.matrix.swapWaiting then s.matrixWork else s) := rfl

theorem State.exec_transitionEnd (s : State) : exec .transitionEnd s =
    .next (if s.matrixArises && decide (s.tb.phase = 0) && s.matrix.inTransition then s.matrixWork else s) := rfl

/-- Settles O42: at a boundary the three rows are one event, each taken where its case arises. -/
theorem boundaryWorkOfTheRouteMatrix : Obligations.BoundaryWorkOfTheRouteMatrix := by
  intro s old new copied kept swapped
  refine ⟨fun hr hd hall hp => ?_, fun h => ?_⟩
  · have ha : s.matrixArises = true := s.matrixArises_iff.mpr ⟨hr, hd, hall⟩
    have hevent : exec .routeMatrixEvent s = .next s.matrixBoundary.formSlots := by
      rw [State.exec_routeMatrixEvent, if_pos ha, State.matrixWork, if_pos hp]
    have hswap (hw : s.matrix.swapWaiting = true) : exec .swapPerformed s = exec .routeMatrixEvent s := by
      rw [State.exec_swapPerformed, State.exec_routeMatrixEvent, ha, hp, hw]
      rfl
    refine ⟨fun hw => ⟨?_, ?_⟩, fun hw r hprog => ⟨?_, (hswap hw).symm⟩, fun hin => ?_, fun hin => ?_⟩
    · rw [hevent, State.matrixBoundary_idle hw, Matrix.endTransitions_eq, State.copyPattern_eq]
    · rw [State.exec_swapPerformed, hw, Bool.and_false, if_neg Bool.false_ne_true]
    · rw [hswap hw, hevent, State.matrixBoundary_waiting hw hprog, Matrix.exchange_endTransitions_eq,
        State.copyPattern_eq]
    · rw [State.exec_transitionEnd, State.exec_routeMatrixEvent, ha, hp, s.matrix.inTransition_iff.mpr hin]
      rfl
    · have hn : s.matrix.inTransition = false := by
        rw [Bool.eq_false_iff, Ne, Matrix.inTransition_iff]
        exact fun ⟨j, hj⟩ => hj (hin j)
      rw [State.exec_transitionEnd, hn, Bool.and_false, if_neg Bool.false_ne_true]
  · have ha : (s.matrixArises && decide (s.tb.phase = 0)) = false := by
      rw [Bool.eq_false_iff, Ne, Bool.and_eq_true, State.matrixArises_iff, decide_eq_true_eq]
      rintro ⟨⟨hr, hd, hall⟩, hp⟩
      rcases h with h | h | ⟨k, h⟩ | h
      · simp [hr] at h
      · simp [hd] at h
      · simp [hall k] at h
      · exact h hp
    rw [State.exec_swapPerformed, State.exec_transitionEnd, ha]
    exact ⟨rfl, rfl⟩

end Sys2Proof.Machine
end

section
/-! The effective gain of a contributor and the sum of a slot (R137, R139, R140). -/

namespace Sys2Proof.Machine

/-- Outside a transition a slot has its arriving driver alone, at full weight (R137, R140). -/
theorem State.slotSum_none (s : State) (d : Option Driver) (m : Nat) :
    s.slotSum .none d m = s.contribution d m 48 := rfl

theorem effectiveGain_le {g m w : Nat} (hm : m ≤ 48) (hw : w ≤ 48) : effectiveGain g m w ≤ g := by
  have faded : g * m / 48 ≤ g := Nat.div_le_of_le_mul (by rw [Nat.mul_comm 48]; exact Nat.mul_le_mul_left g hm)
  have weighted : g * m / 48 * w / 48 ≤ g * m / 48 :=
    Nat.div_le_of_le_mul (by rw [Nat.mul_comm 48]; exact Nat.mul_le_mul_left _ hw)
  exact weighted.trans faded

@[simp] theorem effectiveGain_level_zero (g w : Nat) : effectiveGain g 0 w = 0 := by simp [effectiveGain]

theorem effectiveGain_full (g : Nat) : effectiveGain g 48 48 = g := by simp [effectiveGain]

@[simp] theorem State.contribution_level_zero (s : State) (d : Option Driver) (w : Nat) : s.contribution d 0 w = 0 := by
  cases d <;> simp [State.contribution]

/-- At fade level 0 no driver adds to the sum of its slot. -/
theorem State.slotSum_level_zero (s : State) (x : Transition) (d : Option Driver) : s.slotSum x d 0 = 0 := by
  cases x <;> simp [State.slotSum]

/-- Settles O44: neither the level nor the weight lets a gain exceed itself, and level 0 makes it 0. -/
theorem effectiveGainOfAContributor : Obligations.EffectiveGainOfAContributor := by
  refine ⟨fun g m w hg hm hw =>
      ⟨rfl, (effectiveGain_le hm hw).trans hg, effectiveGain_full g, effectiveGain_level_zero g w⟩,
    fun s d m => s.slotSum_none d m, fun _ _ _ _ => rfl, fun s x d => ?_⟩
  rw [s.slotSum_level_zero]
  rfl

end Sys2Proof.Machine
end

section
/-! The requests SWAP and COPY, and what every reset leaves of the slots (R126, R127, R134, R138, R180, R186). -/

namespace Sys2Proof.Machine

/-! ### SWAP and COPY -/

/-- A SWAP or a COPY has no object, index, count or data to be refused for: taken and unprotected, it is executed
(section 11.4). -/
theorem State.Takes.handle_bankRequest {s : State} {r : Request} {k : RequestKind} (h : s.Takes r)
    (hp : s.pins.protect = false) (hk : requestKind r.code = some k) (hbank : k = .swap ∨ k = .copy) :
    s.handle r = (s.take r).execute r k := by
  have hp : (s.take r).pins.protect = false := by simpa using hp
  rw [h.handle]
  rcases hbank with rfl | rfl
  · exact State.decideRequest_executes hk (.inl hp) rfl rfl rfl
  · exact State.decideRequest_executes hk (.inl hp) rfl rfl rfl

/-- Settles O55: the SWAP that is taken is executed, and its execution answers nothing. -/
theorem swapWaitsUnanswered : Obligations.SwapWaitsUnanswered := by
  intro s o m h hp
  refine congrArg Host.Outcome.next ((h.handle_bankRequest hp rfl (.inl rfl)).trans ?_)
  simp only [State.execute, State.doSwap, State.take_frame]

/-- While a SWAP is in progress an addressed request is taken and answered BUSY (R180). -/
theorem State.handle_busy {s : State} {r : Request} (hr : s.pins.resetLine = false) (hprog : s.inProgress ≠ none)
    (hu : r.env.unit ≠ 0) (hd : s.dev.unit = some r.env.unit) : s.handle r = (s.take r).answer r .busy [] := by
  have hg := r.general_eq_false_iff.mpr hu
  have hs : s.serves r = true := by simp [State.serves, hg, hd]
  simp [State.handle, State.refuseBusy, hr, hs, hg, Option.isSome_iff_ne_none.mpr hprog]

/-- While a SWAP is in progress a general request is dropped (R179). -/
theorem State.handle_general_dropped {s : State} {r : Request} (hprog : s.inProgress ≠ none) (hu : r.env.unit = 0) :
    s.handle r = s := by
  simp [State.handle, State.refuseBusy, r.general_iff.mpr hu, Option.isSome_iff_ne_none.mpr hprog]

/-- Settles O56: COPY replaces the standby bank's records alone, and an exchange of like banks changes no driver. -/
theorem copyMakesTheBanksAlike : Obligations.CopyMakesTheBanksAlike := by
  refine ⟨fun s o m h hp => ?_, fun b hb => ⟨Matrix.slots_exchange_of_alike hb, fun j => ?_⟩, fun s o m hr hprog => ?_⟩
  · refine ⟨s.matrix.setStandby s.matrix.activeBank, congrArg Host.Outcome.next ?_, by simp⟩
    rw [h.handle_bankRequest hp rfl (.inr rfl)]
    simp only [State.execute, State.doCopy, State.take_frame]
  · rw [Matrix.activeBank_exchange, hb]
  · exact ⟨fun hu => congrArg Host.Outcome.next (State.handle_general_dropped (r := ⟨7, o, m⟩) hprog hu),
      fun hu hd => congrArg Host.Outcome.next (State.handle_busy (r := ⟨7, o, m⟩) hr hprog hu hd)⟩

/-! ### The resets -/

/-- With no slot in transition and no event pending, every slot's sum is its arriving driver's contribution, and no
BANK_SWAPPED is pending (R138). -/
theorem State.cancelled_of_settled {t : State} (h : t.matrix.Settled) (he : t.ev.events = []) :
    (∀ (j : SlotId) (d : Option Driver) (n : Nat), t.matrix.slots[j].transition = .none
      ∧ t.slotSum t.matrix.slots[j].transition d n = t.contribution d n 48)
    ∧ ∀ e ∈ t.ev.events, e.kind ≠ .bankSwapped := by
  refine ⟨fun j d n => ⟨h j, ?_⟩, fun e hm => ?_⟩
  · rw [h j, State.slotSum_none]
  · rw [he] at hm
    exact absurd hm List.not_mem_nil

/-- A bank with no route in use drives no slot (R128). -/
theorem drivenBy_eq_none {b : Bank} (h : ∀ n : RouteId, b[n].inUse = false) (j : SlotId) : drivenBy b j = none := by
  have hfind : ((List.finRange 256).find? fun n => b[n].inUse && decide (b[n].slot = j)) = none :=
    List.find?_eq_none.mpr fun n _ => by rw [h n, Bool.false_and]; exact Bool.false_ne_true
  simp only [drivenBy, hfind]

theorem inUse_default (n : RouteId) : (Vector.replicate 256 defaultRoute)[n].inUse = false := by simp [defaultRoute]

/-- Settles O58: each reset clears the transition of every slot and the event set, and no default record is in use. -/
theorem resetsCancelEveryTransition : Obligations.ResetsCancelEveryTransition := by
  intro s cancelled
  refine ⟨fun v => ⟨_, rfl, State.cancelled_of_settled (Matrix.powerOn_settled _) rfl⟩,
    fun hr => ⟨_, execResetLineAssert_released hr, State.cancelled_of_settled (Matrix.settled_of_reset rfl) rfl⟩, ?_⟩
  intro o m rest h hp
  obtain ⟨reset, clear⟩ := resetRequestAnswersAndThenResets s o m rest h hp
  refine ⟨fun hm => ⟨_, reset hm, State.cancelled_of_settled (Matrix.settled_of_reset rfl) rfl⟩,
    fun hm => ⟨_, clear hm, State.cancelled_of_settled (Matrix.settled_of_reset rfl) rfl, fun n => ?_, rfl,
      drivenBy_eq_none inUse_default⟩⟩
  simp [defaultRoute]

end Sys2Proof.Machine
end

section
/-! The close of the block peak (R154 to R157; logs 14, 39). -/

namespace Sys2Proof.Machine

/-! ### When a close tests its block, and when it raises SILENCE -/

theorem Stream.closeTests_iff (st : Stream) : st.closeTests = true ↔
    (st.state = .playing ∨ st.state = .holdover) ∧ st.closing.watch ≠ none ∧ st.relockOpen = false := by
  simp [Stream.closeTests, PlayState.plays_iff, Option.isSome_iff_ne_none, and_assoc]

theorem Stream.closeRaises_of_peak {st : Stream} (ht : st.closeTests = true) {v : Nat} (hv : st.blockPeak = some v) :
    st.closeRaises = true ↔ st.silence = false ∧ v < st.closing.silenceThreshold
      ∧ st.closing.silenceWindow ≤ min (st.silentRun + 1) 65535 := by
  simp [Stream.closeRaises, Stream.runAdvanced, ht, hv]

theorem Stream.not_closeRaises_of_empty {st : Stream} (hv : st.blockPeak = none) : ¬ st.closeRaises = true := by
  simp [Stream.closeRaises, hv]

theorem Stream.closeTests_of_closeRaises {st : Stream} (h : st.closeRaises = true) : st.closeTests = true := by
  simp only [Stream.closeRaises, Bool.and_eq_true] at h
  obtain ⟨⟨ht, -⟩, -⟩ := h
  exact ht

theorem Stream.closeRaises_iff (st : Stream) : st.closeRaises = true ↔ st.FallsSilent := by
  cases hv : st.blockPeak with
  | none => exact iff_of_false (Stream.not_closeRaises_of_empty hv) (by simp [Stream.FallsSilent, hv])
  | some v =>
    by_cases ht : st.closeTests = true
    · rw [Stream.closeRaises_of_peak ht hv]
      obtain ⟨hp, hw, ho⟩ := st.closeTests_iff.mp ht
      simp [Stream.FallsSilent, hv, hp, hw, ho, and_comm]
    · refine iff_of_false (mt Stream.closeTests_of_closeRaises ht) ?_
      rintro ⟨hp, hw, ho, -⟩
      exact ht (st.closeTests_iff.mpr ⟨hp, hw, ho⟩)

/-! ### What a close leaves -/

/-- The end of SILENCE as one change of the stream: the active alarm set is touched where the condition was active. -/
theorem State.endSilence_eq (s : State) (k : StreamId) : s.endSilence k = s.modStream k fun t =>
    { t with silentRun := 0, silence := false,
             alarms := if t.silence then { t.alarms with silence := false } else t.alarms } := by
  by_cases h : (s.stream k).silence = true
  · rw [State.endSilence, if_pos h, State.clearAlarm_modStream]
    exact State.modStream_congr (by simp [h, AlarmFlags.set])
  · rw [State.endSilence, if_neg h]
    exact State.modStream_congr (by simp [h])

section
variable {s : State} {k : StreamId} {v : Nat}

theorem State.closePeak_taken (hd : (s.stream k).peakDue = false) : s.closePeak k = s :=
  if_neg (by simp [hd])

theorem State.closePeak_due (hd : (s.stream k).peakDue = true) : s.closePeak k =
    (s.modStream k fun st => { st with peakDue := false, blockPeak := none, relockOpen := false }).testPeak k
      (s.stream k) :=
  if_pos hd

/-- A close that does not test its block, or whose peak reaches the threshold, ends SILENCE (R155, R156). -/
theorem State.closePeak_ends (hd : (s.stream k).peakDue = true)
    (h : (s.stream k).closeTests = true →
      ∃ v, (s.stream k).blockPeak = some v ∧ (s.stream k).closing.silenceThreshold ≤ v) :
    s.closePeak k = s.modStream k fun t =>
      { t with peakDue := false, blockPeak := none, silentRun := 0, silence := false, relockOpen := false,
               alarms := if t.silence then { t.alarms with silence := false } else t.alarms } := by
  rw [State.closePeak_due hd]
  have htest (u : State) : u.testPeak k (s.stream k) = u.endSilence k := by
    by_cases ht : (s.stream k).closeTests = true
    · obtain ⟨v, hv, hge⟩ := h ht
      simp only [State.testPeak, ht, hv, if_true, if_neg (Nat.not_lt.mpr hge)]
    · simp only [State.testPeak, if_neg ht]
  rw [htest, State.endSilence_eq, State.modStream_modStream]

/-- A tested close of an empty peak leaves the silent run and SILENCE as they were (R155). -/
theorem State.closePeak_empty (hd : (s.stream k).peakDue = true) (ht : (s.stream k).closeTests = true)
    (hv : (s.stream k).blockPeak = none) : s.closePeak k = s.modStream k fun t => { t with peakDue := false } := by
  obtain ⟨-, -, ho⟩ := (s.stream k).closeTests_iff.mp ht
  rw [State.closePeak_due hd]
  simp only [State.testPeak, ht, hv, if_true]
  exact State.modStream_congr (by simp only [hv, ho])

/-- A tested close below the threshold advances the silent run, and raises SILENCE at or above the window if it is
inactive (R155). -/
theorem State.closePeak_below (hd : (s.stream k).peakDue = true) (ht : (s.stream k).closeTests = true)
    (hv : (s.stream k).blockPeak = some v) (hlt : v < (s.stream k).closing.silenceThreshold) :
    s.closePeak k =
      if (s.stream k).closeRaises = true then
        (s.modStream k fun t =>
          { t with peakDue := false, blockPeak := none, silentRun := min ((s.stream k).silentRun + 1) 65535,
                   silence := true }).raise k .silence
      else s.modStream k fun t =>
        { t with peakDue := false, blockPeak := none, silentRun := min ((s.stream k).silentRun + 1) 65535 } := by
  obtain ⟨-, -, ho⟩ := (s.stream k).closeTests_iff.mp ht
  rw [State.closePeak_due hd]
  simp only [State.testPeak, ht, hv, hlt, if_true, State.modStream_modStream]
  split
  · refine congrArg (State.raise · k .silence) (State.modStream_congr ?_)
    simp only [Stream.runAdvanced, ho]
  · refine State.modStream_congr ?_
    simp only [Stream.runAdvanced, ho]

end

/-! ### The hand-off's close -/

/-- A frame stage that plays does not enter PLAYING, so its hand-off raises SILENCE where the stream that the boundary
stage leaves falls silent (R78, R154). -/
theorem State.handOffRaises_of_fallsSilent {s : State} {k : StreamId} (hp : s.tb.phase = 0)
    (hd : ((s.boundaryStage k).stream k).peakDue = true) (hf : ((s.boundaryStage k).stream k).FallsSilent) :
    s.handOffRaises k = true := by
  have hb : s.beforeFrameStage k = (s.boundaryStage k).stream k := if_pos (s.atBoundary_iff.mpr hp)
  have hr : ¬ ((s.boundaryStage k).stream k).reachesFillStart = true := by
    rw [Stream.reachesFillStart_iff]
    obtain ⟨hs | hs, -⟩ := hf <;> simp [hs]
  simp only [State.handOffRaises, hb, hd, if_neg hr, (Stream.closeRaises_iff _).mpr hf, Bool.and_self]

theorem State.exec_silenceWindow_handOff (s : State) (k : StreamId) : exec (.silenceWindow k .handOff) s =
    .next (if s.playoutArises k = true ∧ s.handOffRaises k = true then s.playoutWork k else s) := by
  simp [exec, execSilenceWindow]

/-- Settles O40: by whether the close is still to be taken, whether it tests, and where the peak stands. -/
theorem closeOfTheBlockPeakTestsForSilence : Obligations.CloseOfTheBlockPeakTestsForSilence := by
  intro s k
  dsimp only
  rw [← Stream.closeTests_iff]
  refine ⟨State.closePeak_taken, fun hd => ⟨fun ht => ?_, fun ht hv => ?_, fun ht v hv => ⟨fun hge => ?_,
    fun hlt hquiet => ?_, fun hlt hn hw => ?_⟩⟩, fun hr hd hp hpeak hf => ?_⟩
  · exact State.closePeak_ends hd fun h => absurd h ht
  · exact State.closePeak_empty hd ht hv
  · exact State.closePeak_ends hd fun _ => ⟨v, hv, hge⟩
  · have hstays : ¬ (s.stream k).closeRaises = true := by
      rw [Stream.closeRaises_of_peak ht hv]
      rintro ⟨hn, -, hw⟩
      rcases hquiet with hy | hlow
      · simp [hn] at hy
      · exact absurd hw (Nat.not_le.mpr hlow)
    rw [State.closePeak_below hd ht hv hlt, if_neg hstays]
  · rw [State.closePeak_below hd ht hv hlt, if_pos ((Stream.closeRaises_of_peak ht hv).mpr ⟨hn, hlt, hw⟩)]
  · have hwork : s.playoutWork k = (s.boundaryStage k).frameStage k := if_pos (s.atBoundary_iff.mpr hp)
    rw [State.exec_silenceWindow_handOff, if_pos ⟨(s.playoutArises_iff k).mpr ⟨hr, hd⟩,
      State.handOffRaises_of_fallsSilent hp hpeak hf⟩, hwork]

end Sys2Proof.Machine
end

section
/-! The monitor unit's boundary work on both paths (R148, R150, R154, R157; logs 4, 5, 14, 39). -/

namespace Sys2Proof.Machine

/-! ### Raises and changes of a stream that leave its alarms alone -/

theorem State.offerAlert_modStream (s : State) (k : StreamId) (f : Stream → Stream) (kind : EventKind) (n : Nat) :
    (s.modStream k f).offerAlert kind n = (s.offerAlert kind n).modStream k f := by
  have hnotice (d : AlertDest) : (s.modStream k f).alertNotice d kind n = s.alertNotice d kind n := by
    simp [State.alertNotice]
  simp only [State.offerAlert, State.modStream_frame, hnotice]
  split
  · split
    · rfl
    · rename_i d _
      cases hp : d.port <;> rfl
  · rfl

/-- A latch reads no stream. -/
theorem State.latch_modStream (s : State) (k : StreamId) (f : Stream → Stream) (kind : EventKind) (n : Nat) :
    (s.modStream k f).latch kind n = (s.latch kind n).modStream k f := by
  simp only [State.latch, State.modStream_frame]
  split
  · rw [← State.offerAlert_modStream]
    rfl
  · rfl

/-- A change of a stream that neither reads nor writes its alarms may be made before or after a raise. -/
theorem State.raise_modStream {f : Stream → Stream} (hf : ∀ st x, f { st with alarms := x } = { f st with alarms := x })
    (s : State) (k : StreamId) (a : StreamAlarm) : (s.raise k a).modStream k f = (s.modStream k f).raise k a := by
  have halarms : (f (s.stream k)).alarms = (s.stream k).alarms := 
    (congrArg Stream.alarms (hf (s.stream k) (s.stream k).alarms) :)
  have hset : (s.setAlarm k a true).modStream k f = (s.modStream k f).setAlarm k a true := by
    simp only [State.setAlarm, State.modStream_modStream]
    exact State.modStream_congr (by rw [hf, halarms])
  simp only [State.raise, State.stream_modStream_same, halarms]
  split
  · rfl
  · rw [← State.latch_modStream, hset]

/-! ### One path -/

theorem Stream.modPath_congr {st : Stream} {p : Port} {f g : PathContext → PathContext}
    (h : f (st.path p) = g (st.path p)) : st.modPath p f = st.modPath p g := by
  cases p
  · exact congrArg (fun c => { st with pathA := c }) h
  · exact congrArg (fun c => { st with pathB := c }) h

/-- A path after the advance of a boundary, before the test of its gap (R150, R157). -/
def Stream.pathAdvanced (st : Stream) (p : Port) : PathContext :=
  if st.record.shape.admission.includes p then
    { st.path p with blocksSince := (st.path p).advanced, down := (st.path p).down || st.pathFails p }
  else st.path p

/-- A condition already active stays active, so only the advance that fails the path changes it. -/
theorem Stream.down_or_pathFails {st : Stream} {p : Port} (hi : st.record.shape.admission.includes p = true) :
    ((st.path p).down || st.pathFails p)
      = ((st.path p).down || decide (st.closing.pathTimeout ≤ (st.path p).advanced)) := by
  cases hd : (st.path p).down <;> simp [Stream.pathFails, PathContext.advanced, hi, hd]

/-- The test of the gap reads the arrivals, which the advance leaves alone. -/
theorem Stream.testGap_pathAdvanced (st : Stream) (p : Port) (h : HouseCount) :
    (st.pathAdvanced p).testGap h = st.pathAfterBoundary p h := by
  have hsat : (st.pathAdvanced p).saturates h = (st.path p).saturates h := by
    unfold Stream.pathAdvanced
    split <;> rfl
  have hadv : st.pathAdvanced p = if st.record.shape.admission.includes p then
      { st.path p with blocksSince := min ((st.path p).blocksSince + 1) 255,
                       down := (st.path p).down
                         || decide (st.closing.pathTimeout ≤ min ((st.path p).blocksSince + 1) 255) }
      else st.path p := by
    unfold Stream.pathAdvanced
    split
    · rename_i hi
      rw [Stream.down_or_pathFails hi]
      rfl
    · rfl
  rw [PathContext.testGap, hsat, hadv, Stream.pathAfterBoundary]
  cases hl : (st.path p).lastArrival with
  | none => simp [PathContext.saturates, hl]
  | some a => simp [PathContext.saturates, hl]

/-- A path's advance is the change of its stream, and the raise where the path fails. -/
theorem State.advancePath_eq (s : State) (k : StreamId) (p : Port) : s.advancePath k p =
    if (s.stream k).pathFails p = true then
      (s.modStream k fun st => st.modPath p fun _ => st.pathAdvanced p).raise k (pathAlarm p)
    else s.modStream k fun st => st.modPath p fun _ => st.pathAdvanced p := by
  have hchange {f : PathContext → PathContext} (h : f ((s.stream k).path p) = (s.stream k).pathAdvanced p) :
      (s.modStream k fun st => st.modPath p f) = s.modStream k fun st => st.modPath p fun _ => st.pathAdvanced p :=
    State.modStream_congr (Stream.modPath_congr h)
  have htimes : (s.stream k).pathTimesOut p = (s.stream k).pathFails p := rfl
  by_cases hi : (s.stream k).record.shape.admission.includes p = true
  · rw [State.advancePath, if_pos hi, htimes]
    by_cases hf : (s.stream k).pathFails p = true
    · rw [if_pos hf, if_pos hf, hchange (by simp [Stream.pathAdvanced, hi, hf])]
    · rw [if_neg hf, if_neg hf, hchange (by simp [Stream.pathAdvanced, hi, hf])]
  · have hf : ¬ (s.stream k).pathFails p = true := by simp [Stream.pathFails, hi]
    rw [State.advancePath, if_neg hi, if_neg hf, ← hchange (f := id) (by simp [Stream.pathAdvanced, hi])]
    exact (State.modStream_of_fixed (by cases p <;> rfl)).symm

/-! ### The whole work -/

/-- The raise of a path that fails, after a change of the stream (R150). -/
theorem State.raise_if_modStream {f : Stream → Stream}
    (hf : ∀ st x, f { st with alarms := x } = { f st with alarms := x }) (s : State) (k : StreamId) (a : StreamAlarm)
    (c : Prop) [Decidable c] : (if c then s.raise k a else s).modStream k f
      = if c then (s.modStream k f).raise k a else s.modStream k f := by
  rw [apply_ite (State.modStream · k f), State.raise_modStream hf]

/-- The work in the order of the claim: both paths at once, the raises with path A first, and the close. -/
theorem State.monitorWork_eq (s : State) (k : StreamId) :
    let u0 := s.modStream k fun t => { t with
      pathA := t.pathAfterBoundary .a s.tb.h, pathB := t.pathAfterBoundary .b s.tb.h, monitorDue := false }
    let u1 := if (s.stream k).pathFails .a then u0.raise k .pathADown else u0
    let u2 := if (s.stream k).pathFails .b then u1.raise k .pathBDown else u1
    s.monitorWork k = u2.closePeak k := by
  have hfails : ((s.advancePath k .a).stream k).pathFails .b = (s.stream k).pathFails .b := by
    rw [State.advancePath_eq]
    split
    · rw [State.stream_raise, if_pos rfl, State.stream_modStream_same]
      rfl
    · rw [State.stream_modStream_same]
      rfl
  dsimp only
  rw [State.monitorWork, State.advancePath_eq _ k .b, hfails, State.advancePath_eq s k .a]
  simp only [pathAlarm]
  rw [State.raise_if_modStream fun _ _ => rfl, State.raise_if_modStream fun _ _ => rfl,
    State.raise_if_modStream fun _ _ => rfl]
  simp only [State.modStream_modStream, ← Stream.testGap_pathAdvanced]
  rfl

/-! ### The commands -/

theorem PathContext.saturates_iff {c : PathContext} {a : HouseCount} (ha : c.lastArrival = some a)
    (hf : c.frozen = false) (h : HouseCount) : c.saturates h = true ↔ 65535 ≤ (h - a).toNat := by
  simp [PathContext.saturates, ha, hf]

theorem PathContext.not_saturates {c : PathContext} (hk : c.lastArrival = none ∨ c.frozen = true) (h : HouseCount) :
    ¬ c.saturates h = true := by
  unfold PathContext.saturates
  rcases hk with hk | hk
  · simp [hk]
  · split <;> simp [hk]

theorem State.monitorArises_iff (s : State) (k : StreamId) : s.monitorArises k = true ↔
    s.pins.resetLine = false ∧ (s.stream k).monitorDue = true ∧ (s.stream k).enabled = true := by
  simp [State.monitorArises, and_assoc]

section
variable (s : State) (k : StreamId) (p : Port)

theorem State.exec_monitorBoundaryWork : exec (.monitorBoundaryWork k) s =
    .next (if s.monitorArises k = true then s.monitorWork k else s) := rfl

theorem State.exec_pathTimeout : exec (.pathTimeout k p) s =
    .next (if s.monitorArises k = true ∧ (s.stream k).pathFails p = true then s.monitorWork k else s) := by
  have htimes : (s.stream k).pathTimesOut p = (s.stream k).pathFails p := rfl
  simp [exec, execPathTimeout, htimes]

theorem State.exec_intervalSaturation : exec (.intervalSaturation k p) s =
    .next (if s.monitorArises k = true ∧ ((s.stream k).path p).saturates s.tb.h = true then s.monitorWork k
      else s) := by
  simp [exec, execIntervalSaturation]

theorem State.exec_silenceWindow_monitorWork : exec (.silenceWindow k .monitorWork) s =
    .next (if s.monitorArises k = true ∧ (s.stream k).peakDue = true ∧ (s.stream k).closeRaises = true then
      s.monitorWork k else s) := by
  simp [exec, execSilenceWindow, and_assoc]

end

/-- Settles O39: the four commands are the monitor's work, each in its own case. -/
theorem monitorBoundaryWorkOnBothPaths : Obligations.MonitorBoundaryWorkOnBothPaths := by
  intro s k
  dsimp only
  rw [← State.monitorWork_eq s k]
  simp only [State.exec_monitorBoundaryWork, State.exec_pathTimeout, State.exec_intervalSaturation,
    State.exec_silenceWindow_monitorWork]
  refine ⟨fun hr hd he => ?_, fun h => ?_⟩
  · have ha : s.monitorArises k = true := (s.monitorArises_iff k).mpr ⟨hr, hd, he⟩
    refine ⟨by rw [if_pos ha], fun p => by simp only [ha, true_and], fun p a hl hf => ?_, fun p hk => ?_,
      fun hp hs => by rw [if_pos ⟨ha, hp, (Stream.closeRaises_iff _).mpr hs⟩], fun h => ?_⟩
    · simp only [ha, true_and, PathContext.saturates_iff hl hf]
    · rw [if_neg fun h => PathContext.not_saturates hk _ h.2]
    · rw [if_neg]
      rintro ⟨-, hp, hs⟩
      rcases h with h | h
      · simp [hp] at h
      · exact h ((Stream.closeRaises_iff _).mp hs)
  · have hn : ¬ s.monitorArises k = true := by
      rw [State.monitorArises_iff]
      rintro ⟨hr, hd, he⟩
      simp [hr, hd, he] at h
    simp only [hn, Bool.false_eq_true, false_and, if_false, implies_true, and_self]

end Sys2Proof.Machine
end

section
/-! The event set as a set of pairs: each pair once, in the order of R169, and what a latch makes of it (R161, R166, R167, R169,
R173). -/

namespace Sys2Proof.Machine

/-! ### Kinds and scopes (section 10.3) -/

theorem EventKind.priority_eq_number (kind : EventKind) : kind.priority = kind.number := by cases kind <;> rfl

theorem StreamAlarm.event_eq_latches (a : StreamAlarm) : a.event = a.latches := by cases a <;> rfl

theorem StreamAlarm.event_device (a : StreamAlarm) : a.event.device = false := by cases a <;> rfl

/-- The stream is one that the kind's scope allows. -/
def EventKind.Scoped (kind : EventKind) (n : Nat) : Prop := if kind.device then n = 0 else 1 ≤ n ∧ n ≤ 64

theorem EventKind.scoped_device {kind : EventKind} (h : kind.device = true) : kind.Scoped 0 := by
  simp [EventKind.Scoped, h]

theorem EventKind.scoped_stream {kind : EventKind} (h : kind.device = false) (k : StreamId) : kind.Scoped k.number := by
  have := k.isLt
  simp only [EventKind.Scoped, h, Bool.false_eq_true, if_false, StreamId.number]
  omega

theorem EventKind.Scoped.le {kind : EventKind} {n : Nat} (h : kind.Scoped n) : n ≤ 64 := by
  unfold EventKind.Scoped at h
  split at h <;> omega

theorem EventEntry.Sound.stream_le {e : EventEntry} (h : e.Sound) : e.stream ≤ 64 :=
  EventKind.Scoped.le (kind := e.kind) h.scope

/-! ### Sound sets of pairs -/

/-- What `State.EventsSound` says of a state, said of the list of its pairs. -/
structure SoundSet (es : List EventEntry) : Prop where
  entries : ∀ e ∈ es, e.Sound
  order : es.Pairwise EventEntry.Before

theorem State.eventsSound_iff (s : State) : s.EventsSound ↔ SoundSet s.ev.events :=
  ⟨fun ⟨entries, order⟩ => ⟨entries, order⟩, fun ⟨entries, order⟩ => ⟨entries, order⟩⟩

/-- For the streams that the manual has, the order of R169 is the order of the model's keys. -/
theorem EventEntry.before_iff_key_lt {a b : EventEntry} (ha : a.stream ≤ 64) (hb : b.stream ≤ 64) :
    a.Before b ↔ a.key < b.key := by
  simp only [EventEntry.Before, EventEntry.key, eventKey, EventKind.priority_eq_number]
  omega

theorem pairwise_before_iff {es : List EventEntry} (h : ∀ e ∈ es, e.Sound) :
    es.Pairwise EventEntry.Before ↔ es.Pairwise fun a b => a.key < b.key :=
  List.Pairwise.iff_of_mem fun ha hb => EventEntry.before_iff_key_lt (h _ ha).stream_le (h _ hb).stream_le

theorem SoundSet.order_keys {es : List EventEntry} (h : SoundSet es) : es.Pairwise fun a b => a.key < b.key :=
  (pairwise_before_iff h.entries).mp h.order

theorem soundSet_nil : SoundSet [] := ⟨fun _ h => (List.not_mem_nil h).elim, .nil⟩

theorem SoundSet.drop {es : List EventEntry} (h : SoundSet es) (count : Nat) : SoundSet (es.drop count) :=
  ⟨fun e he => h.entries e (List.mem_of_mem_drop he), h.order.drop⟩

/-- A latch of a pair that the manual has keeps the set sound. -/
theorem SoundSet.latchInto {es : List EventEntry} (h : SoundSet es) {kind : EventKind} {n : Nat} (hn : kind.Scoped n) :
    SoundSet (latchInto kind n es) := by
  have entries : ∀ e ∈ Machine.latchInto kind n es, e.Sound := by
    intro e he
    rcases mem_latchInto he with ⟨rfl, rfl, hc⟩ | he
    · refine ⟨hn, ?_⟩
      rcases hc with hc | ⟨d, -, hc⟩ <;> omega
    · exact h.entries e he
  exact ⟨entries, (pairwise_before_iff entries).mpr <|
    pairwise_latchInto hn.le (fun e he => (h.entries e he).stream_le) h.order_keys⟩

/-! ### Each pair once -/

/-- The kind and the stream of an entry, without its count. -/
def EventEntry.pair (e : EventEntry) : EventKind × Nat := (e.kind, e.stream)

/-- No pair stands before itself, so an ordered set holds each pair once. -/
theorem SoundSet.nodup_pairs {es : List EventEntry} (h : SoundSet es) : (es.map EventEntry.pair).Nodup := by
  refine List.pairwise_map.mpr (h.order.imp fun {a b} hb heq => ?_)
  obtain ⟨hk, hs⟩ := Prod.mk.inj heq
  rw [EventEntry.Before, hk, hs] at hb
  omega

/-- The pairs that the manual has: the 4 device kinds with stream 0, and the 7 stream kinds with streams 1 to 64. -/
def manualPairs : Finset (EventKind × Nat) :=
  {.refLost, .markSlip, .refRestored, .bankSwapped} ×ˢ {0}
    ∪ {.starved, .relocked, .servoLimit, .pathADown, .pathBDown, .silence, .locked} ×ˢ Finset.Icc 1 64

theorem card_manualPairs_le : manualPairs.card ≤ 452 := by
  refine (Finset.card_union_le _ _).trans ?_
  rw [Finset.card_product, Finset.card_product, Nat.card_Icc]
  decide

theorem EventEntry.Sound.pair_mem {e : EventEntry} (h : e.Sound) : e.pair ∈ manualPairs := by
  obtain ⟨kind, n, count⟩ := e
  have hn := h.scope
  cases kind <;> simpa [manualPairs, EventEntry.pair, EventKind.device] using hn

theorem SoundSet.length_le {es : List EventEntry} (h : SoundSet es) : es.length ≤ 452 := by
  have hsub : (es.map EventEntry.pair).toFinset ⊆ manualPairs := by
    intro x hx
    obtain ⟨e, he, rfl⟩ := List.mem_map.mp (List.mem_toFinset.mp hx)
    exact (h.entries e he).pair_mem
  calc es.length = (es.map EventEntry.pair).toFinset.card := by
        rw [List.toFinset_card_of_nodup h.nodup_pairs, List.length_map]
    _ ≤ manualPairs.card := Finset.card_le_card hsub
    _ ≤ 452 := card_manualPairs_le

/-- A sound set is read off its counts: an entry is pending exactly where its pair has the entry's count, not 0. -/
theorem SoundSet.mem_iff {es : List EventEntry} (h : SoundSet es) (e : EventEntry) :
    e ∈ es ↔ 1 ≤ e.count ∧ pendingCount e.kind e.stream es = e.count := by
  unfold pendingCount
  cases hf : es.find? fun d => decide (d.kind = e.kind ∧ d.stream = e.stream) with
  | none =>
    have hn : e ∉ es := fun he => by simpa using List.find?_eq_none.mp hf e he
    simp only [hn, false_iff]
    omega
  | some d =>
    obtain ⟨hk, hs⟩ : d.kind = e.kind ∧ d.stream = e.stream := by simpa using List.find?_some hf
    have hd : d ∈ es := List.mem_of_find?_eq_some hf
    constructor
    · intro he
      have hde : d = e := List.inj_on_of_nodup_map h.nodup_pairs hd he (Prod.ext hk hs)
      exact ⟨(h.entries e he).count.1, by rw [hde]⟩
    · rintro ⟨-, hc⟩
      have hde : d = e := by
        cases d
        cases e
        simp_all
      exact hde ▸ hd

/-! ### What a latch makes of the set -/

/-- After a latch the set holds the latched pair with its count, and the other pairs that it held before. -/
theorem SoundSet.mem_latchInto_iff {es : List EventEntry} (h : SoundSet es) {kind : EventKind} {n : Nat}
    (hn : kind.Scoped n) (e : EventEntry) : e ∈ Machine.latchInto kind n es ↔
      e = ⟨kind, n, pendingCount kind n (Machine.latchInto kind n es)⟩
        ∨ (e ∈ es ∧ ¬ (e.kind = kind ∧ e.stream = n)) := by
  rw [(h.latchInto hn).mem_iff, h.mem_iff]
  by_cases hp : e.kind = kind ∧ e.stream = n
  · obtain ⟨rfl, rfl⟩ := hp
    have hc := pendingCount_latchInto_same e.kind e.stream h.order_keys
    constructor
    · rintro ⟨-, hcount⟩
      exact .inl (by rw [hcount])
    · rintro (he | ⟨-, hne⟩)
      · have hcount := congrArg EventEntry.count he
        dsimp only at hcount
        omega
      · exact absurd ⟨rfl, rfl⟩ hne
  · rw [pendingCount_latchInto_other es hp]
    constructor
    · exact fun he => .inr ⟨he, hp⟩
    · rintro (he | ⟨he, -⟩)
      · exact absurd ⟨congrArg EventEntry.kind he, congrArg EventEntry.stream he⟩ hp
      · exact he

/-- A pair that is pending is counted once more, up to 255. -/
theorem SoundSet.pendingCount_latchInto_of_mem {es : List EventEntry} (h : SoundSet es) {kind : EventKind} {n old : Nat}
    (hm : ⟨kind, n, old⟩ ∈ es) : pendingCount kind n (Machine.latchInto kind n es) = min (old + 1) 255 := by
  obtain ⟨-, hc⟩ := (h.mem_iff _).mp hm
  rw [pendingCount_latchInto_same kind n h.order_keys, hc]

/-- A pair that is not pending is counted for the first time. -/
theorem SoundSet.pendingCount_latchInto_of_not_mem {es : List EventEntry} (h : SoundSet es) {kind : EventKind} {n : Nat}
    (hm : ∀ old, ⟨kind, n, old⟩ ∉ es) : pendingCount kind n (Machine.latchInto kind n es) = 1 := by
  have h0 : pendingCount kind n es = 0 := by
    by_contra hne
    exact hm _ ((h.mem_iff ⟨kind, n, pendingCount kind n es⟩).mpr ⟨Nat.pos_of_ne_zero hne, rfl⟩)
  rw [pendingCount_latchInto_same kind n h.order_keys, h0]
  rfl

/-! ### The alert -/

theorem State.latch_enabled {s : State} {kind : EventKind} (n : Nat)
    (h : s.dev.eventEnable.getLsbD (kind.priority - 1) = true) : s.latch kind n
      = State.offerAlert { s with ev := { s.ev with events := latchInto kind n s.ev.events } } kind n := by
  simp [State.latch, h]

/-- A pair whose alert-enable bit is clear, or that finds alert pending or no destination, sends no notice. -/
theorem State.offerAlert_unsent {s : State} {kind : EventKind} (n : Nat)
    (h : s.dev.alertEnable.getLsbD (kind.priority - 1) = false ∨ s.ev.alertPending = true ∨ s.ev.alertDest = none) :
    s.offerAlert kind n = s := by
  rcases h with h | h | h <;> simp [State.offerAlert, h]

theorem State.offerAlert_sent {s : State} {kind : EventKind} (n : Nat) {d : AlertDest}
    (he : s.dev.alertEnable.getLsbD (kind.priority - 1) = true) (hp : s.ev.alertPending = false)
    (hd : s.ev.alertDest = some d) : s.offerAlert kind n
      = { s.modPort d.port fun l => l.hand (s.alertNotice d kind n) with ev := { s.ev with alertPending := true } } := by
  simp [State.offerAlert, he, hp, hd]

/-- A change of the event unit and a change of a port do not meet. -/
theorem State.modPort_with_ev {s : State} {p : Port} {f g : LinkPort → LinkPort} (u v : EventUnit)
    (h : f (s.port p) = g (s.port p)) :
    { State.modPort { s with ev := u } p f with ev := v } = { s.modPort p g with ev := v } := by
  rw [← State.modPort_congr h]
  cases p <;> rfl

/-- Settles O60: the set after a latch is `latchInto`'s, and the notice carries its size and the count of the latched pair. -/
theorem latchCountsAndAlertsOnce : Obligations.LatchCountsAndAlertsOnce := by
  refine ⟨fun s kind n hs hn => ?_, fun s k a => ?_⟩
  · have h : SoundSet s.ev.events := s.eventsSound_iff.mp hs
    rw [← kind.priority_eq_number]
    refine ⟨State.latch_disabled n, fun hen => ⟨latchInto kind n s.ev.events,
      pendingCount kind n (latchInto kind n s.ev.events), h.mem_latchInto_iff hn, (h.latchInto hn).order,
      fun _ => h.pendingCount_latchInto_of_mem, h.pendingCount_latchInto_of_not_mem, fun hu => ?_,
      fun d ha hp hd => ?_⟩⟩
    · exact (State.latch_enabled n hen).trans (State.offerAlert_unsent n hu)
    · exact ((State.latch_enabled n hen).trans (State.offerAlert_sent n ha hp hd)).trans
        (State.modPort_with_ev _ _ rfl)
  · rw [← a.event_eq_latches]
    constructor
    · intro ha
      simp [State.raise, ha]
    · intro ha
      simp [State.raise, ha, State.setAlarm]

end Sys2Proof.Machine
end

section
/-! PEEK_EVENTS and READ_EVENTS (R163, R169, R170, R174, R185, section 12.3). -/

namespace Sys2Proof.Machine

/-- A pair as a reply carries it: the kind's code, the stream and the count, a byte each (section 12.3). -/
theorem EventEntry.toBytes_eq (e : EventEntry) :
    e.toBytes = [BitVec.ofNat 8 e.kind.number, BitVec.ofNat 8 e.stream, BitVec.ofNat 8 e.count] := by
  simp [EventEntry.toBytes, Machine.toBytes, EventKind.priority_eq_number]

theorem State.eventData_eq (s : State) (pairs : List EventEntry) : s.eventData pairs =
    Machine.toBytes 2 s.ev.events.length ++ [flagOf s.ev.alertPending, flagOf s.ev.refLost]
      ++ pairs.flatMap fun e =>
        [BitVec.ofNat 8 e.kind.number, BitVec.ofNat 8 e.stream, BitVec.ofNat 8 e.count] := by
  simp [State.eventData, flagByte_eq, funext EventEntry.toBytes_eq]

/-- The two requests read no index and no object: a count of 1 to 16 passes check 4 of R177. -/
theorem indexPasses_of_count {r : Request} (h1 : 1 ≤ r.env.count.toNat) (h16 : r.env.count.toNat ≤ 16) :
    r.indexPasses .peekEvents = true ∧ r.indexPasses .readEvents = true := by
  simp [Request.indexPasses, Request.count, h1, h16]

/-- A PEEK_EVENTS that the part takes, with a count of 1 to 16, is executed. -/
theorem State.handle_peekEvents {s : State} {o : Byte} {m : Envelope} (h : s.Takes ⟨8, o, m⟩)
    (h1 : 1 ≤ m.count.toNat) (h16 : m.count.toNat ≤ 16) :
    s.handle ⟨8, o, m⟩ = (s.take ⟨8, o, m⟩).doPeek ⟨8, o, m⟩ :=
  h.handle.trans <|
    State.decideRequest_executes (k := .peekEvents) rfl (.inr rfl) rfl (indexPasses_of_count h1 h16).1 rfl

/-- A READ_EVENTS that the part takes, with a count of 1 to 16, is executed. -/
theorem State.handle_readEvents {s : State} {o : Byte} {m : Envelope} (h : s.Takes ⟨9, o, m⟩)
    (h1 : 1 ≤ m.count.toNat) (h16 : m.count.toNat ≤ 16) :
    s.handle ⟨9, o, m⟩ = (s.take ⟨9, o, m⟩).doReadEvents ⟨9, o, m⟩ :=
  h.handle.trans <|
    State.decideRequest_executes (k := .readEvents) rfl (.inr rfl) rfl (indexPasses_of_count h1 h16).2 rfl

/-- Settles O48: the taking of a request leaves the event set, which the reply then lays out. -/
theorem eventRequestsReturnPairsInOrder : Obligations.EventRequestsReturnPairsInOrder := by
  intro s o m h1 h16 flag pairs rest
  refine ⟨fun h => congrArg _ ((State.handle_peekEvents h h1 h16).trans ?_), fun h => ?_⟩
  · simp only [State.doPeek, State.eventData_eq, State.take_events, State.take_alertPending, State.take_refLost]
    rfl
  · refine congrArg _ ((State.handle_readEvents h h1 h16).trans ?_)
    simp only [State.doReadEvents, State.eventData_eq, State.take_events, State.take_refLost]
    rfl

end Sys2Proof.Machine
end

section
/-! The event set along every step (R161, R166, R167, R169, R170, R176). -/

namespace Sys2Proof.Machine

/-! ### What an event does to the event set -/

/-- The parts of an event in the event set: a latch of a pair that the manual has, and the removal of the first pairs. -/
inductive EventMove (es : List EventEntry) : List EventEntry → Prop where
  | latch (kind : EventKind) (n : Nat) (h : kind.Scoped n) : EventMove es (latchInto kind n es)
  | drop (count : Nat) : EventMove es (es.drop count)

theorem SoundSet.move {es es' : List EventEntry} (h : SoundSet es) (hm : EventMove es es') : SoundSet es' := by
  cases hm with
  | latch kind n hn => exact h.latchInto hn
  | drop count => exact h.drop count

/-- The event set goes from one state to the other by such parts, one after the other. -/
def State.EventsMove (s t : State) : Prop := Relation.ReflTransGen EventMove s.ev.events t.ev.events

theorem State.EventsMove.trans {s t u : State} (h : s.EventsMove t) (h' : t.EventsMove u) : s.EventsMove u :=
  Relation.ReflTransGen.trans h h'

theorem State.EventsMove.soundSet {s t : State} (h : s.EventsMove t) (hs : SoundSet s.ev.events) :
    SoundSet t.ev.events := by
  unfold State.EventsMove at h
  generalize t.ev.events = es at h
  induction h with
  | refl => exact hs
  | tail _ hm ih => exact ih.move hm

/-- An event that leaves the event set as it was. -/
theorem State.eventsMove_of_eq {s t : State} (h : t.ev.events = s.ev.events := by simp) : s.EventsMove t := by
  rw [State.EventsMove, h]

theorem State.EventsMove.refl (s : State) : s.EventsMove s := State.eventsMove_of_eq rfl

/-- An event that empties the event set (R176). -/
theorem State.eventsMove_of_nil {s t : State} (h : t.ev.events = []) : s.EventsMove t := by
  rw [State.EventsMove, h, ← List.drop_length (l := s.ev.events)]
  exact .single (.drop _)

/-- A change of the event set, and then an event that leaves it. -/
theorem State.EventsMove.then_eq {s t u : State} (h : s.EventsMove t)
    (hu : u.ev.events = t.ev.events := by simp) : s.EventsMove u := h.trans (State.eventsMove_of_eq hu)

/-- An event that leaves the event set, and then a change of it. -/
theorem State.EventsMove.after_eq {s t u : State} (h : t.EventsMove u)
    (ht : t.ev.events = s.ev.events := by simp) : s.EventsMove u := (State.eventsMove_of_eq ht).trans h

/-! ### Latches, raises and relocks -/

theorem State.eventsMove_latch (s : State) {kind : EventKind} {n : Nat} (h : kind.Scoped n) :
    s.EventsMove (s.latch kind n) := by
  rw [State.EventsMove, State.latch_events]
  split
  · exact .single (.latch kind n h)
  · exact .refl

theorem State.eventsMove_raise (s : State) (k : StreamId) (a : StreamAlarm) : s.EventsMove (s.raise k a) := by
  rcases s.raise_cases k a with ⟨-, h⟩ | ⟨-, h⟩
  · exact h.symm ▸ .refl s
  · rw [h]
    exact (State.eventsMove_latch _ (EventKind.scoped_stream a.event_device k)).after_eq

theorem State.eventsMove_raiseRefLost (s : State) : s.EventsMove s.raiseRefLost := by
  rcases s.raiseRefLost_cases with h | h
  · exact h.symm ▸ .refl s
  · rw [h]
    exact (State.eventsMove_latch _ (EventKind.scoped_device rfl)).after_eq rfl

theorem State.eventsMove_relock (s : State) (k : StreamId) : s.EventsMove (s.relock k) :=
  (State.eventsMove_latch _ (EventKind.scoped_stream rfl k)).after_eq

/-! ### The monitor unit and the servo -/

theorem State.eventsMove_advancePath (s : State) (k : StreamId) (p : Port) : s.EventsMove (s.advancePath k p) := by
  unfold State.advancePath
  repeat' split
  · exact (State.eventsMove_raise _ _ _).after_eq
  all_goals exact State.eventsMove_of_eq

theorem State.eventsMove_testPeak (s : State) (k : StreamId) (st : Stream) : s.EventsMove (s.testPeak k st) := by
  unfold State.testPeak
  repeat' split
  · exact .refl s
  · exact (State.eventsMove_raise _ _ _).after_eq
  all_goals exact State.eventsMove_of_eq

theorem State.eventsMove_closePeak (s : State) (k : StreamId) : s.EventsMove (s.closePeak k) := by
  unfold State.closePeak
  split
  · exact (State.eventsMove_testPeak _ _ _).after_eq
  · exact .refl s

theorem State.eventsMove_monitorWork (s : State) (k : StreamId) : s.EventsMove (s.monitorWork k) :=
  (s.eventsMove_advancePath k .a).trans <| (State.eventsMove_advancePath _ k .b).trans <|
    (State.eventsMove_closePeak _ k).after_eq

theorem State.eventsMove_setServoLimit (s : State) (k : StreamId) (holds : Bool) :
    s.EventsMove (s.setServoLimit k holds) := by
  unfold State.setServoLimit
  repeat' split
  · exact s.eventsMove_raise k .servoLimit
  all_goals exact State.eventsMove_of_eq

theorem State.eventsMove_servoWork (s : State) (k : StreamId) : s.EventsMove (s.servoWork k) := by
  have limited (f : Stream → Stream) (holds : Bool) : s.EventsMove ((s.modStream k f).setServoLimit k holds) :=
    (State.eventsMove_setServoLimit _ _ _).after_eq
  unfold State.servoWork
  split
  · exact limited _ _
  · exact State.eventsMove_of_eq
  · exact limited _ _
  · exact limited _ _
  · exact .refl s

/-! ### The playout engine and the segment classifier -/

theorem State.eventsMove_boundaryStage (s : State) (k : StreamId) : s.EventsMove (s.boundaryStage k) := by
  unfold State.boundaryStage
  repeat' split
  · exact (State.eventsMove_raise _ _ _).after_eq
  · exact State.eventsMove_of_eq
  · exact s.eventsMove_relock k
  all_goals exact State.eventsMove_of_eq

theorem State.eventsMove_handToDetector (s : State) (k : StreamId) (formedIn : PlayState) (out : Frame) :
    s.EventsMove (s.handToDetector k formedIn out) := by
  unfold State.handToDetector
  exact (s.eventsMove_closePeak k).then_eq

theorem State.eventsMove_frameStage (s : State) (k : StreamId) : s.EventsMove (s.frameStage k) := by
  have handed (f : Stream → Stream) (formedIn : PlayState) (out : Frame) :
      s.EventsMove ((s.modStream k f).handToDetector k formedIn out) :=
    (State.eventsMove_handToDetector _ _ _ _).after_eq
  unfold State.frameStage
  dsimp only
  split
  · exact (handed _ _ _).trans (State.eventsMove_latch _ (EventKind.scoped_stream rfl k))
  · exact handed _ _ _

theorem State.eventsMove_playoutWork (s : State) (k : StreamId) : s.EventsMove (s.playoutWork k) := by
  unfold State.playoutWork
  split
  · exact (s.eventsMove_boundaryStage k).trans (State.eventsMove_frameStage _ k)
  · exact s.eventsMove_frameStage k

theorem State.eventsMove_reject (s : State) (k : StreamId) : s.EventsMove (s.reject k) := by
  unfold State.reject
  split
  · exact s.eventsMove_relock k
  · exact State.eventsMove_of_eq

theorem State.eventsMove_conclude (s : State) (k : StreamId) (g : Segment) (v : Verdict) :
    s.EventsMove (s.conclude k g v) := by
  cases v
  case outOfState | duplicate => exact .refl s
  case mismatchShape =>
    unfold State.conclude
    dsimp only
    split
    · exact .refl s
    · exact s.eventsMove_reject k
  case mismatchTimeline | late | early => exact s.eventsMove_reject k
  case first => exact State.eventsMove_of_eq rfl
  case accepted =>
    unfold State.conclude
    dsimp only
    split <;> exact State.eventsMove_of_eq

theorem State.eventsMove_classify (s : State) (k : StreamId) (p : Port) (g : Segment) :
    s.EventsMove (s.classify k p g) := (State.eventsMove_conclude _ _ _ _).after_eq

/-! ### The route matrix and the timebase -/

theorem State.eventsMove_performSwap (s : State) : s.EventsMove s.performSwap := by
  have latched : s.EventsMove (State.latch { s with matrix := s.matrix.exchange } .bankSwapped 0) :=
    (State.eventsMove_latch _ (EventKind.scoped_device rfl)).after_eq rfl
  exact latched.then_eq (by simp [State.performSwap])

theorem State.eventsMove_matrixBoundary (s : State) : s.EventsMove s.matrixBoundary := by
  unfold State.matrixBoundary
  dsimp only
  split
  · have performed : s.EventsMove (State.performSwap { s with matrix := s.matrix.endTransitions }) :=
      (State.eventsMove_performSwap _).after_eq rfl
    exact performed.then_eq
  · exact State.eventsMove_of_eq

theorem State.eventsMove_matrixWork (s : State) : s.EventsMove s.matrixWork := by
  unfold State.matrixWork
  split
  · exact s.eventsMove_matrixBoundary.then_eq
  · exact State.eventsMove_of_eq

theorem State.eventsMove_houseFrame (s : State) (mark : Bool) : s.EventsMove (s.houseFrame mark) := by
  unfold State.houseFrame
  dsimp only
  split
  · refine (State.eventsMove_latch _ (EventKind.scoped_device rfl)).after_eq ?_
    split <;> rfl
  · split <;> exact State.eventsMove_of_eq rfl

theorem State.eventsMove_lockReference (s : State) (mark : Bool) : s.EventsMove (s.lockReference mark) := by
  unfold State.lockReference
  exact ((State.eventsMove_houseFrame _ mark).trans (State.eventsMove_latch _ (EventKind.scoped_device rfl))).after_eq rfl

theorem State.eventsMove_edge (s : State) (e : Edge) : s.EventsMove (s.edge e) := by
  unfold State.edge
  repeat' split
  · exact .refl s
  · exact (State.eventsMove_houseFrame _ _).after_eq rfl
  · exact .refl s
  · exact s.eventsMove_lockReference e.mark
  all_goals exact State.eventsMove_of_eq rfl

theorem State.eventsMove_missedEdge (s : State) : s.EventsMove s.missedEdge := by
  unfold State.missedEdge
  split
  · exact (s.eventsMove_houseFrame false).trans ((State.eventsMove_raiseRefLost _).after_eq rfl)
  · exact (s.eventsMove_houseFrame false).then_eq rfl

/-! ### The management agent -/

theorem State.eventsMove_relockAll (s : State) (ks : List StreamId) : s.EventsMove (s.relockAll ks) := by
  unfold State.relockAll
  induction ks generalizing s with
  | nil => exact .refl s
  | cons k ks ih =>
    rw [List.foldl_cons]
    refine .trans ?_ (ih _)
    split
    · exact s.eventsMove_relock k
    · exact .refl s

theorem State.eventsMove_doReadEvents (s : State) (r : Request) : s.EventsMove (s.doReadEvents r) := by
  have hev : (s.doReadEvents r).ev.events = s.ev.events.drop r.count := by simp [State.doReadEvents]
  rw [State.EventsMove, hev]
  exact .single (.drop r.count)

theorem State.eventsMove_execute (s : State) (r : Request) (k : RequestKind) : s.EventsMove (s.execute r k) := by
  cases k
  case relock =>
    exact (s.eventsMove_relockAll (namedStreams r.index r.count)).then_eq (by simp [State.execute, State.doRelock])
  case readEvents => exact s.eventsMove_doReadEvents r
  case reset =>
    unfold State.execute State.doReset
    dsimp only
    split <;> exact State.eventsMove_of_nil rfl
  case read | write | collect =>
    unfold State.execute
    dsimp only
    split <;> exact State.eventsMove_of_eq
  all_goals exact State.eventsMove_of_eq (by simp [State.execute])

theorem State.eventsMove_handle (s : State) (r : Request) : s.EventsMove (s.handle r) := by
  unfold State.handle State.refuseBusy State.decideRequest
  repeat' split
  · exact .refl s
  · exact State.eventsMove_of_eq
  · exact State.eventsMove_of_eq
  · exact (State.eventsMove_execute _ r _).after_eq
  · exact .refl s

theorem State.eventsMove_receive (s : State) (p : Port) (f : RxFrame) : s.EventsMove (s.receive p f) := by
  unfold State.receive
  refine State.EventsMove.after_eq (t := s.countPort p fun c => c.count (s.judgeFrame p f)) ?_
  cases s.judgeFrame p f
  case segment => exact State.eventsMove_classify _ _ _ _
  case request => exact State.eventsMove_handle _ _
  all_goals exact .refl _

/-! ### Every step -/

/-- Every command moves the event set by latches and removals. -/
theorem Effect.eventsMove {s t : State} (h : Effect s t) : s.EventsMove t := by
  cases h with
  | powerOn => exact State.eventsMove_of_nil rfl
  | lineReset => exact State.eventsMove_of_nil rfl
  | receive p f => exact s.eventsMove_receive p f
  | classify k p g => exact s.eventsMove_classify k p g
  | edge e => exact s.eventsMove_edge e
  | missedEdge => exact s.eventsMove_missedEdge
  | houseFrame => exact s.eventsMove_houseFrame false
  | playout k => exact s.eventsMove_playoutWork k
  | servo k => exact s.eventsMove_servoWork k
  | monitor k => exact s.eventsMove_monitorWork k
  | matrix => exact s.eventsMove_matrixWork
  | request r => exact s.eventsMove_handle r
  | _ => exact State.eventsMove_of_eq

/-- Settles O7: every part of an event keeps a sound set sound, and a sound set holds each of the manual's pairs once. -/
theorem stepKeepsEventSetOrdered : Obligations.StepKeepsEventSetOrdered :=
  ⟨fun _ _ hs h => step_keeps (P := State.EventsSound)
      (fun s _ hs => (State.eventsSound_iff _).mpr (s.eventsSound_iff.mp hs))
      (fun _ t he hs => t.eventsSound_iff.mpr (he.eventsMove.soundSet ((State.eventsSound_iff _).mp hs))) h hs,
    fun s hs => (s.eventsSound_iff.mp hs).length_le⟩

end Sys2Proof.Machine
end

section
/-! The order in which a request is refused (R177 to R181, R190, R192, section 11.4): each check of the model in the terms
of the manual's codes, and then the outcome of the checks. -/

namespace Sys2Proof.Machine

/-! ### Which requests are served (R178, R190) -/

/-- The codes 1 to 11 name a request. -/
theorem exists_requestKind {code : Byte} (h : 1 ≤ code.toNat ∧ code.toNat ≤ 11) : ∃ k, requestKind code = some k :=
  Option.ne_none_iff_exists'.mp fun hn => (requestKind_eq_none_iff code).mp hn h

theorem RequestKind.servedGeneral_iff (k : RequestKind) : k.servedGeneral = true ↔ 2 ≤ k.number ∧ k.number ≤ 7 := by
  cases k <;> decide

/-- The part serves the six requests of R178 at the general address, and every request at its own. -/
theorem State.serves_iff (s : State) (r : Request) :
    s.serves r = true ↔ (r.env.unit = 0 ∧ 2 ≤ r.code.toNat ∧ r.code.toNat ≤ 7)
      ∨ (r.env.unit ≠ 0 ∧ s.dev.unit = some r.env.unit) := by
  by_cases hu : r.env.unit = 0
  · rw [State.serves, if_pos (r.general_iff.mpr hu)]
    simp only [hu, true_and, ne_eq, not_true_eq_false, false_and, or_false]
    cases hk : requestKind r.code with
    | none =>
      have hc := (requestKind_eq_none_iff r.code).mp hk
      exact iff_of_false Bool.false_ne_true (by omega)
    | some k => simp only [k.servedGeneral_iff, toNat_of_requestKind hk]
  · rw [State.serves, if_neg (by simpa [r.general_iff] using hu)]
    simp only [hu, decide_eq_true_eq, ne_eq, not_false_eq_true, true_and, false_and, false_or]

/-- A request that the part does not serve changes nothing. -/
theorem State.handle_of_not_served {s : State} {r : Request} (h : ¬ s.serves r = true) : s.handle r = s := by
  simp [State.handle, h]

/-! ### The checks of R177 by the manual's codes -/

/-- The request codes that the protect line forbids (R181). -/
abbrev GuardedCode (code : Nat) : Prop := (2 ≤ code ∧ code ≤ 7) ∨ code = 11

theorem RequestKind.guarded_iff (k : RequestKind) : k.guarded = true ↔ GuardedCode k.number := by
  cases k <;> decide

/-- The lowest index of an object, by its code (section 11.4). -/
abbrev lowestIndex (object : Nat) : Nat := if object = 1 ∨ object = 2 ∨ object = 9 ∨ object = 10 then 1 else 0

/-- The number of records of an object, by its code (section 11.4). -/
abbrev recordsOf (object : Nat) : Nat :=
  if object = 1 ∨ object = 2 ∨ object = 9 ∨ object = 10 then 64 else if object = 3 ∨ object = 4 then 256
  else if object = 5 then 8 else if object = 6 then 48 else if object = 8 then 2 else 1

/-- The size of a record that a WRITE carries, by the object's code (section 12.3). -/
abbrev writtenSize (object : Nat) : Nat :=
  if object = 1 then 24 else if object = 4 then 11 else if object = 5 then 3 else if object = 6 then 3 else 28

/-- The index and count that a request needs, by its codes (check 4 of R177). -/
abbrev IndexHolds (m : Envelope) (code object : Nat) : Prop :=
  code = 6 ∨ code = 7 ∨ code = 11 ∨ ((code = 8 ∨ code = 9) ∧ 1 ≤ m.count.toNat ∧ m.count.toNat ≤ 16)
    ∨ ((code ≤ 5 ∨ code = 10) ∧ Names m (lowestIndex object) (recordsOf object))

/-- The data that a request needs, by its codes (check 5 of R177, R192). -/
abbrev DataHolds (m : Envelope) (code object : Nat) : Prop :=
  (code = 2 → m.count.toNat * writtenSize object ≤ m.data.length)
    ∧ (code = 11 → ∃ b rest, m.data = b :: rest ∧ b.toNat ≤ 1)

theorem ObjectKind.range_eq (o : ObjectKind) : o.range = (lowestIndex o.number, recordsOf o.number) := by
  cases o <;> rfl

theorem indexOk_iff (o : ObjectKind) (m : Envelope) :
    indexOk o m.index.toNat m.count.toNat = true ↔ Names m (lowestIndex o.number) (recordsOf o.number) := by
  have hr : o.range.1 = lowestIndex o.number ∧ o.range.2 = recordsOf o.number := by simp only [o.range_eq, and_self]
  rw [← hr.1, ← hr.2]
  refine ⟨fun h => ?_, Names.indexOk⟩
  simp only [indexOk, Bool.and_eq_true, decide_eq_true_eq] at h
  obtain ⟨⟨⟨least, most⟩, from_⟩, upTo⟩ := h
  exact ⟨least, most, from_, upTo⟩

/-- A request that applies to an object and does not disregard it has one of the eleven. -/
theorem RequestKind.exists_objectKind {k : RequestKind} {object : Byte} (hk : k.number ≤ 5 ∨ k.number = 10)
    (ha : k.applies object = true) : ∃ o, objectKind object = some o := by
  refine Option.ne_none_iff_exists'.mp fun ho => objectKind_eq_none ho ?_
  have happ := (k.applies_iff object).mp ha
  simp only [Applies] at happ
  omega

theorem Request.indexPasses_eq_indexOk {r : Request} {k : RequestKind} {o : ObjectKind}
    (hk : k.number ≤ 5 ∨ k.number = 10) (ho : objectKind r.object = some o) :
    r.indexPasses k = indexOk o r.env.index.toNat r.env.count.toNat := by
  cases k
  case swap | copy | reset | peekEvents | readEvents => simp [RequestKind.number] at hk
  all_goals simp only [Request.indexPasses, ho, Request.index, Request.count]

theorem Request.indexPasses_iff {r : Request} {k : RequestKind} (hk : requestKind r.code = some k)
    (ha : k.applies r.object = true) : r.indexPasses k = true ↔ IndexHolds r.env r.code.toNat r.object.toNat := by
  rw [toNat_of_requestKind hk]
  by_cases hobj : k.number ≤ 5 ∨ k.number = 10
  · obtain ⟨o, ho⟩ := RequestKind.exists_objectKind hobj ha
    rw [Request.indexPasses_eq_indexOk hobj ho, indexOk_iff, ← toNat_of_objectKind ho]
    refine ⟨fun h => .inr (.inr (.inr (.inr ⟨hobj, h⟩))), ?_⟩
    rintro (h | h | h | ⟨h, -⟩ | ⟨-, h⟩)
    case inr.inr.inr.inr => exact h
    all_goals omega
  · have hcount : r.env.count.toNat = r.count := rfl
    cases k
    case swap | copy | reset | peekEvents | readEvents =>
      simp [Request.indexPasses, hcount, IndexHolds, RequestKind.number]
    all_goals simp [RequestKind.number] at hobj

/-- The flag of a RESET's data is its first byte, and is 0 or 1 (R192). -/
theorem Request.clearTables_isSome_iff (r : Request) :
    r.clearTables.isSome = true ↔ ∃ b rest, r.env.data = b :: rest ∧ b.toNat ≤ 1 := by
  unfold Request.clearTables
  cases r.env.data with
  | nil => simp
  | cons b rest =>
    have hflag : (readFlag b.toNat).isSome = true ↔ b.toNat ≤ 1 := by
      rw [Option.isSome_iff_ne_none, ne_eq, readFlag_eq_none_iff, not_lt]
    simp [hflag]

theorem Request.dataPasses_iff {r : Request} {k : RequestKind} (hk : requestKind r.code = some k)
    (ha : k.applies r.object = true) : r.dataPasses k = true ↔ DataHolds r.env r.code.toNat r.object.toNat := by
  rw [toNat_of_requestKind hk]
  cases k
  case write =>
    obtain ⟨o, ho⟩ := RequestKind.exists_objectKind (.inl (by decide)) ha
    have hsize : o.recordSize = writtenSize o.number := by
      cases o <;> simp [RequestKind.applies, ho] at ha <;> rfl
    simp [Request.dataPasses, Request.count, ho, hsize, DataHolds, RequestKind.number, toNat_of_objectKind ho]
  case reset => simp [Request.dataPasses, r.clearTables_isSome_iff, DataHolds, RequestKind.number]
  all_goals simp [Request.dataPasses, DataHolds, RequestKind.number]

/-! ### The outcome of the checks (R177) -/

theorem State.judge_take (s : State) (r : Request) : (s.take r).judge r = s.judge r := by simp [State.judge]

/-- A request that is taken and fails a check is answered with that check's refusal, and nothing else. -/
theorem State.Takes.handle_refused {s : State} {r : Request} {refusal : Result} (h : s.Takes r)
    (hj : s.judge r = .inl refusal) : s.handle r = (s.take r).answer r refusal [] := by
  rw [h.handle, State.decideRequest, State.judge_take, hj]

theorem State.judge_prot {s : State} {r : Request} (hg : GuardedCode r.code.toNat) (hp : s.pins.protect = true) :
    s.judge r = .inl .prot := by
  obtain ⟨k, hk⟩ := exists_requestKind (code := r.code) (by omega)
  rw [toNat_of_requestKind hk, ← k.guarded_iff] at hg
  simp [State.judge, hk, hp, hg]

/-- The protect line does not forbid the request `k`, in the terms of its code (R181). -/
theorem State.protect_and_guarded_eq_false {s : State} {r : Request} {k : RequestKind}
    (hk : requestKind r.code = some k) (hp : ¬ (GuardedCode r.code.toNat ∧ s.pins.protect = true)) :
    (s.pins.protect && k.guarded) = false := by
  rw [toNat_of_requestKind hk, ← k.guarded_iff, and_comm] at hp
  simpa using hp

theorem State.judge_badObject {s : State} {r : Request} (hp : ¬ (GuardedCode r.code.toNat ∧ s.pins.protect = true))
    (ha : ¬ Applies r.code.toNat r.object.toNat) : s.judge r = .inl .badObject := by
  cases hk : requestKind r.code with
  | none => simp only [State.judge, hk]
  | some k =>
    have hfree := State.protect_and_guarded_eq_false hk hp
    rw [toNat_of_requestKind hk, ← k.applies_iff] at ha
    simp [State.judge, hk, hfree, ha]

/-- A request that applies to its object comes to the checks 4 and 5 as one of the eleven. -/
theorem State.judge_of_applies {s : State} {r : Request} (hp : ¬ (GuardedCode r.code.toNat ∧ s.pins.protect = true))
    (ha : Applies r.code.toNat r.object.toNat) :
    ∃ k, requestKind r.code = some k ∧ k.applies r.object = true ∧ s.judge r =
      if !r.indexPasses k then .inl .badIndex else if !r.dataPasses k then .inl .badValue else .inr k := by
  obtain ⟨k, hk⟩ := exists_requestKind (code := r.code) (by simp only [Applies] at ha; omega)
  have hfree := State.protect_and_guarded_eq_false hk hp
  rw [toNat_of_requestKind hk, ← k.applies_iff] at ha
  exact ⟨k, hk, ha, by simp [State.judge, hk, hfree, ha]⟩

theorem State.judge_badIndex {s : State} {r : Request} (hp : ¬ (GuardedCode r.code.toNat ∧ s.pins.protect = true))
    (ha : Applies r.code.toNat r.object.toNat) (hi : ¬ IndexHolds r.env r.code.toNat r.object.toNat) :
    s.judge r = .inl .badIndex := by
  obtain ⟨k, hk, happ, hj⟩ := State.judge_of_applies hp ha
  rw [← Request.indexPasses_iff hk happ] at hi
  simp [hj, hi]

theorem State.judge_badValue {s : State} {r : Request} (hp : ¬ (GuardedCode r.code.toNat ∧ s.pins.protect = true))
    (ha : Applies r.code.toNat r.object.toNat) (hi : IndexHolds r.env r.code.toNat r.object.toNat)
    (hd : ¬ DataHolds r.env r.code.toNat r.object.toNat) : s.judge r = .inl .badValue := by
  obtain ⟨k, hk, happ, hj⟩ := State.judge_of_applies hp ha
  rw [← Request.indexPasses_iff hk happ] at hi
  rw [← Request.dataPasses_iff hk happ] at hd
  simp [hj, hi, hd]

/-! ### The two rows that name no request of section 11.4 (log 5) -/

/-- UNKNOWN_REQUEST hands over a code that is none of the eleven, and no other. -/
theorem exec_unknownRequest (s : State) (r : Request) :
    exec (.unknownRequest r.code r.object r.env) s
      = .next (if 1 ≤ r.code.toNat ∧ r.code.toNat ≤ 11 then s else s.handle r) := by
  have hn := requestKind_eq_none_iff r.code
  rw [← Option.isNone_iff_eq_none] at hn
  simp only [exec, execUnknownRequest, hn, ite_not]

/-- REQUEST_NOT_APPLYING_TO_OBJECT hands over one of the eleven with an object it does not apply to, and no other. -/
theorem exec_requestNotApplyingToObject (s : State) (r : Request) :
    exec (.requestNotApplyingToObject r.code r.object r.env) s
      = .next (if (1 ≤ r.code.toNat ∧ r.code.toNat ≤ 11) ∧ ¬ Applies r.code.toNat r.object.toNat then s.handle r
          else s) := by
  simp only [exec, execRequestNotApplyingToObject, misapplied_iff]

/-! ### A request handed over (R177 to R181, R190) -/

theorem State.handle_dropped {s : State} {r : Request}
    (h : s.pins.resetLine = true ∨ ¬ ((r.env.unit = 0 ∧ 2 ≤ r.code.toNat ∧ r.code.toNat ≤ 7)
      ∨ (r.env.unit ≠ 0 ∧ s.dev.unit = some r.env.unit))) : s.handle r = s := by
  rcases h with hr | hserved
  · exact State.handle_of_asserted hr r
  · exact State.handle_of_not_served ((s.serves_iff r).not.mpr hserved)

/-- Settles O59: the row of a request hands it to the agent, where each refusal is the outcome of one check; the rows
for an unknown code and for an object not applied to hand over their own codes alone. -/
theorem requestsAreRefusedInOrder : Obligations.RequestsAreRefusedInOrder := by
  intro s r served c o guarded applies lowest size indexed record holds
  rw [exec_command, exec_unknownRequest, exec_requestNotApplyingToObject]
  refine ⟨fun h => congrArg _ (State.handle_dropped h), fun hr hserved hprog => congrArg _ ?busy,
    fun ht hg hp => congrArg _ (ht.handle_refused (State.judge_prot hg hp)),
    fun ht hfree => ⟨fun ha => congrArg _ (ht.handle_refused (State.judge_badObject hfree ha)),
      fun ha hi => congrArg _ (ht.handle_refused (State.judge_badIndex hfree ha hi)),
      fun ha hi hd => congrArg _ (ht.handle_refused (State.judge_badValue hfree ha hi hd))⟩,
    fun ht hc => congrArg _ ?unknown, fun ht hp h1 h11 ha => congrArg _ ?misapplied,
    fun h1 h11 => congrArg _ (if_pos ⟨h1, h11⟩), fun hother => congrArg _ ?otherRow⟩
  case busy =>
    rcases hserved with ⟨hu, -⟩ | ⟨hu, hd⟩
    · rw [if_pos hu, State.handle_general_dropped hprog hu]
    · rw [if_neg hu, State.handle_busy hr hprog hu hd]
  case unknown =>
    have hunknown : ¬ (1 ≤ r.code.toNat ∧ r.code.toNat ≤ 11) := by omega
    rw [if_neg hunknown]
    exact ht.handle_refused (State.judge_badObject (fun h => by omega) (by simp only [Applies]; omega))
  case misapplied =>
    rw [if_pos ⟨⟨h1, h11⟩, ha⟩]
    exact ht.handle_refused (State.judge_badObject (by simp [hp]) ha)
  case otherRow =>
    refine if_neg fun ⟨hknown, hna⟩ => ?_
    rcases hother with h | h | h
    · omega
    · omega
    · exact hna h

end Sys2Proof.Machine
end

section
/-! The step of the machine: the command at the front of the queue, or idling (section 6.1 Events, log 2). -/

namespace Sys2Proof.Machine

theorem step_of_pending_cons {s : State} {c : Instr} {rest : List Instr} (h : s.pending = c :: rest) :
    step s = exec c { s with pending := rest } := by
  simp only [step, h]

theorem step_of_pending_nil {s : State} (h : s.pending = []) : step s = .next s := by
  simp only [step, h]

/-- Settles O1: the two cases of the queue, each by its own equation of `step`. -/
theorem frontCommandIsTaken : Obligations.FrontCommandIsTaken :=
  ⟨fun _ _ _ hfront => step_of_pending_cons hfront, fun _ hempty => step_of_pending_nil hempty⟩

end Sys2Proof.Machine
end
